-- ==== Sys2Proof/Word.lean ====
section
/-!
DEFINITION. The widths of the block's data: payload bytes and panel bytes (u8), descriptor words and column
coordinates (32 bits, i32 where signed; spec 00_scope.md R17, R19), and one-bit line levels (R14).
-/

namespace Sys2Proof

/-- A u8: a payload byte, a row buffer byte, or a byte on the panel wire (R19). -/
abbrev Byte := BitVec 8

/-- A descriptor or result word; read as an i32 through `BitVec.toInt` where it is a coordinate (R17, R71). -/
abbrev Word := BitVec 32

/-- The level of a one-bit line: BUSY_IN, RST_OUT, DC_OUT (R14, R36). -/
abbrev Level := BitVec 1

end Sys2Proof
end

