-- ==== Sys2Proof/Config.lean ====
section
/-!
DEFINITION. What is fixed for the block's lifetime (spec 00_scope.md section 4) and the free values: answers of the
environment that nothing gives, and the row buffer's content after a reset. A free value is an opaque constant, so no
proof can see it.
-/

namespace Sys2Proof

/-- BIT_ORDER (R10): which end of its byte the leftmost of eight columns stands at. -/
inductive BitOrder where
  | msbFirst
  | lsbFirst
deriving DecidableEq, Repr, Inhabited

/-- The BUS agent's answer to one byte exchange (R41): success, and the byte received. -/
structure BusAnswer where
  ok : Bool
  rx : Byte
deriving DecidableEq, Repr, Inhabited

/-- The implementation parameters of 00_scope.md section 4 that the spec leaves to a configuration. They are not state:
no operation writes them (R38). -/
structure Config where
  /-- WIDTH, pixel columns (R6). -/
  width : Nat
  /-- HEIGHT, rows (R6). -/
  height : Nat
  /-- FILL_BYTES, the row buffer's length (R9). -/
  fillBytes : Nat
  /-- BIT_ORDER (R10). -/
  bitOrder : BitOrder
  /-- WHITE_BIT (R11). -/
  whiteBit : Level
  /-- CS_ACTIVE_LEVEL (R14). -/
  csActiveLevel : Level
  /-- INIT_MAX_TRANSITIONS_PER_OP (R16). -/
  initMaxTransitions : Nat
  /-- The six panel command bytes (R81). -/
  opBoosterSoftStart : Byte
  opPowerOn : Byte
  opPanelSetting : Byte
  opDtm1 : Byte
  opDtm2 : Byte
  opDisplayRefresh : Byte
  /-- The four parameter bytes of the initialisation sequence (R82). -/
  boosterP0 : Byte
  boosterP1 : Byte
  boosterP2 : Byte
  panelSettingP0 : Byte
deriving DecidableEq, Repr

/-- The values of 00_scope.md section 4 and the suggested defaults of R81 and R82. PRESUMED (log entry 2): the command and
parameter bytes, and the chip-select level, are general knowledge by the spec's own mark. DESIGN CHOICE (log entry 2): the
default is taken wherever the spec leaves a parameter OPEN. Unsafe: see the log entry. -/
def Config.default : Config where
  width := 400
  height := 300
  fillBytes := 50
  bitOrder := .msbFirst
  whiteBit := 1#1
  csActiveLevel := 0#1
  initMaxTransitions := 4
  opBoosterSoftStart := 0x06#8
  opPowerOn := 0x04#8
  opPanelSetting := 0x00#8
  opDtm1 := 0x10#8
  opDtm2 := 0x13#8
  opDisplayRefresh := 0x12#8
  boosterP0 := 0x17#8
  boosterP1 := 0x17#8
  boosterP2 := 0x17#8
  panelSettingP0 := 0x0F#8

/-- The bounds 00_scope.md sets on the parameters: a panel has columns and rows (R6), FILL_BYTES ≥ 1 (R9),
INIT_MAX_TRANSITIONS_PER_OP in 1..4 (R16). -/
abbrev Config.Wf (c : Config) : Prop :=
  1 ≤ c.width ∧ 1 ≤ c.height ∧ 1 ≤ c.fillBytes ∧ 1 ≤ c.initMaxTransitions ∧ c.initMaxTransitions ≤ 4

/-- ROW_BYTES = ceil(WIDTH / 8) (R7). -/
def Config.rowBytes (c : Config) : Nat := (c.width + 7) / 8

/-- PLANE_BYTES = ROW_BYTES × HEIGHT (R8). -/
def Config.planeBytes (c : Config) : Nat := c.rowBytes * c.height

/-- The number of pixel columns the row buffer covers, 8 · FILL_BYTES (R9). -/
def Config.columns (c : Config) : Nat := 8 * c.fillBytes

/-- RED_PLANE_BYTE, every bit set (R12). -/
def redPlaneByte : Byte := 0xFF#8

/-- RESET_LOW_MS (R13). -/
def resetLowMs : Nat := 100

/-- RESET_HIGH_MS (R13). -/
def resetHighMs : Nat := 100

/-- FRAME_SETTLE_MS (R13). -/
def frameSettleMs : Nat := 2

/-- REFRESH_GRACE_MS (R13). -/
def refreshGraceMs : Nat := 10

/-- FREE VALUE: the level of BUSY_IN at the n-th sample of the machine, where State gives no answer (R39, X13;
log entry 7). -/
opaque Config.freeBusy : Nat → Level

/-- FREE VALUE: how many polls of the TIMER answer "not expired" before its n-th "expired", where State gives no answer. Each
is a number, so the timer is fair, and that is all that is known of it (R40, X14; log entries 7 and 8). -/
opaque Config.freeWait : Nat → Nat

/-- A timer that lets `wait k` polls pass before its k-th expiry, as its n-th poll finds it: the number of expiries before
that poll, and how many more polls will find it running. -/
def Config.countdown (wait : Nat → Nat) : Nat → Nat × Nat
  | 0 => (0, wait 0)
  | n + 1 =>
    match Config.countdown wait n with
    | (k, 0) => (k + 1, wait (k + 1))
    | (k, r + 1) => (k, r)

/-- The n-th answer of such a timer: expired when no further poll has to pass. -/
def Config.expiryOf (wait : Nat → Nat) (n : Nat) : Bool := (Config.countdown wait n).2 == 0

/-- The TIMER's answer to the n-th poll of the machine, where State gives no answer: free but fair (R40, X14; log entry 8). -/
def Config.freeExpiry : Nat → Bool := Config.expiryOf Config.freeWait

/-- FREE VALUE: the BUS's answer to the n-th byte exchange of the machine, where State gives no answer (R41, X15;
log entry 7). -/
opaque Config.freeExchange : Nat → BusAnswer

/-- FREE VALUE: byte k of the row buffer after the n-th block reset (R34, R201, X16; log entry 3). -/
opaque Config.freeRowByte : Nat → Nat → Byte

end Sys2Proof
end

