-- ==== Sys2Proof/Syntax.lean ====
section
/-!
DEFINITION. The operations of the block (spec 30_encoding.md R73): one constructor per row of opcode_table.json, with the
operands the descriptor carries. Also the operation descriptor as the host port delivers it (R70 to R72).
-/

namespace Sys2Proof

/-- The two pixel colours (R19). -/
inductive Color where
  | black
  | white
deriving DecidableEq, Repr

/-- An operation with its operands. Coordinates are the operand words as delivered (i32, R71). A payload's length is the
descriptor's LEN (R72). -/
inductive Instr where
  /-- INIT, opcode 0x01 (R109). -/
  | init
  /-- START_FRAME, opcode 0x02 (R116). -/
  | startFrame
  /-- DRAW_ROW, opcode 0x03 (R117). -/
  | drawRow (payload : List Byte)
  /-- END_FRAME, opcode 0x04 (R118). -/
  | endFrame
  /-- START_PARTIAL, opcode 0x05 (R119). -/
  | startPartial (left top right bottom : Word)
  /-- DRAW_PARTIAL_ROW, opcode 0x06 (R120). -/
  | drawPartialRow (payload : List Byte)
  /-- END_PARTIAL, opcode 0x07 (R121). -/
  | endPartial
  /-- FILL, opcode 0x10 (R145). -/
  | fill (color : Color) (clipLeft clipRight left right : Word)
  /-- CLIP_INTERSECT, opcode 0x11 (R142). -/
  | clipIntersect (aLeft aRight bLeft bRight : Word)
  /-- ROW_LOAD, opcode 0x12 (R149). -/
  | rowLoad (payload : List Byte)
  /-- ROW_READ, opcode 0x13 (R150). -/
  | rowRead
deriving DecidableEq, Repr

/-- An operation descriptor as the host port delivers it: word0, the operand words in order (R71), and the payload bytes
in index order (R72). -/
structure Descriptor where
  word0 : Word
  operands : List Word
  payload : List Byte
deriving DecidableEq, Repr

end Sys2Proof
end

