-- ==== Sys2Proof/Machine/State.lean ====
section
/-!
DEFINITION. The machine's state as plain data: the thirteen elements of spec 10_state.md section 2, the block's ports as
data (the host's pending operations, the results, the environment's answers), and the configuration. Also the reasons a
step can stop, and the state after reset (70_reset_and_hazards.md R201).
-/

namespace Sys2Proof.Machine

/-- init_state (R24). -/
inductive InitState where
  | uninit
  | resetting1
  | resetting2
  | resetting3
  | initialized
deriving DecidableEq, Repr

/-- The logical value of CS_OUT (R31). -/
inductive ChipSelect where
  | asserted
  | deasserted
deriving DecidableEq, Repr

/-- The fault causes (R171). The codes that are never recorded have no constructor (X11). -/
inductive Cause where
  | none
  | commFault
  | shortRow
  | longRow
  | notInitialized
  | frameOpen
  | noFrame
  | rowOverflow
  | frameIncomplete
  | fillRange
  | rowLoadLength
  | reservedOpcode
  | reservedField
deriving DecidableEq, Repr

/-- An event of the trace (R35). -/
inductive Event where
  /-- One chip-select-bracketed byte exchange: the DC_OUT level, the byte sent, the bus's answer. -/
  | byte (dc : Level) (v : Byte) (ok : Bool)
  /-- RST_OUT driven to a level. -/
  | rst (level : Level)
  /-- The countdown timer started with a period in ms. -/
  | timerStart (ms : Nat)
  /-- One poll of the timer and its answer. -/
  | timerPoll (expired : Bool)
  /-- One sample of the busy input. -/
  | busy (level : Level)
  /-- One blocking delay in ms. -/
  | delay (ms : Nat)
deriving DecidableEq, Repr

/-- What one operation returns to the host (R78): the result word, then the words of CLIP_INTERSECT's payload or the bytes
of ROW_READ's. -/
structure OpResult where
  word : Word
  words : List Word
  bytes : List Byte
deriving DecidableEq, Repr

/-- What the host does at the block's port, one at a time (R21, R190): issue an operation, or pulse RESET between
operations (R200; log entry 14). -/
inductive HostEvent where
  | issue (d : Descriptor)
  | reset
deriving DecidableEq, Repr

/-- The answers of an agent of the environment: those already laid out, in the order they are drawn, and how many have been
drawn. Past the laid-out ones the answer is a free value (log entry 7). -/
structure Tape (α : Type) where
  given : List α
  drawn : Nat
deriving DecidableEq, Repr

/-- The row buffer: byte k of the list is row_buf[k] (R34, R50). -/
abbrev Memory := List Byte

structure State where
  /-- The parameters (R38); no operation writes them. -/
  config : Config
  /-- init_state (R24). -/
  initState : InitState
  /-- frame_open (R26). -/
  frameOpen : Bool
  /-- rows_sent (R27). -/
  rowsSent : Nat
  /-- faulted (R28). -/
  faulted : Bool
  /-- fault_cause (R28). -/
  faultCause : Cause
  /-- refused (R29). -/
  refused : Bool
  /-- RST_OUT (R30). -/
  rstOut : Level
  /-- CS_OUT (R31). -/
  csOut : ChipSelect
  /-- DC_OUT (R32). -/
  dcOut : Level
  /-- timer_running (R33). -/
  timerRunning : Bool
  /-- timer_period_ms (R33). -/
  timerPeriodMs : Nat
  /-- row_buf (R34). -/
  rowBuf : Memory
  /-- The trace, newest event first (R35; log entry 13). -/
  traceRev : List Event
  /-- The results of the run, newest first (R37, R219; log entry 13). -/
  resultsRev : List OpResult
  /-- What the host does next, first first (R20, R21; log entry 9). -/
  hostIn : List HostEvent
  /-- The PANEL agent's answers to busy samples (R39). -/
  busyIn : Tape Level
  /-- The TIMER agent's answers to polls (R40). -/
  timerIn : Tape Bool
  /-- The BUS agent's answers to byte exchanges (R41). -/
  busIn : Tape BusAnswer
  /-- The model's own counter of block resets, which picks the row buffer's free content (log entry 3). -/
  resets : Nat
deriving DecidableEq, Repr

/-- Why the machine stops. The block's own faults (R171) are none of these: they are next states. -/
inductive Fault where
  /-- Every operation issued to a refused block, before decode (R173 step 2, R181, X25): the block is stuck. Safe: the
  spec itself says that the block takes no step (log entry 10). -/
  | stuckAfterRefusal
  /-- Raised on a descriptor delivered with another number of operand words or payload bytes than R77 gives. Safe: the
  spec gives such a delivery no meaning (log entry 12). -/
  | malformedDescriptor
deriving DecidableEq, Repr

/-- Instructions without a meaning. -/
inductive Refusal where
  /-- An instruction the model does not give a meaning; no arm of exec answers with it. Safe. -/
  | notModelled (mnemonic : String)
deriving DecidableEq, Repr

/-- The row buffer's content after the n-th block reset: a free value in every byte (R34, R201, X16; log entry 3). -/
def freeRow (fillBytes n : Nat) : Memory := (List.range fillBytes).map (Config.freeRowByte n)

/-- Every state element at its reset value (R201), for a block of configuration `c`, at its n-th reset. What is not block
state stands as given: the host's pending actions and the environment's answers. DESIGN CHOICE: DC_OUT and timer_period_ms
have no value in R201 and hold 0 (log entries 4 and 5; unsafe). -/
def State.resetWith (c : Config) (n : Nat) (host : List HostEvent) (busy : Tape Level) (timer : Tape Bool)
    (bus : Tape BusAnswer) : State where
  config := c
  initState := .uninit
  frameOpen := false
  rowsSent := 0
  faulted := false
  faultCause := .none
  refused := false
  rstOut := 1#1
  csOut := .deasserted
  dcOut := 0#1
  timerRunning := false
  timerPeriodMs := 0
  rowBuf := freeRow c.fillBytes n
  traceRev := []
  resultsRev := []
  hostIn := host
  busyIn := busy
  timerIn := timer
  busIn := bus
  resets := n

/-- The machine right after reset (R200, R201): the spec's default parameters, nothing issued by the host (R204), and every
answer of the environment free (log entries 2, 7, 9). -/
def State.reset : State := State.resetWith Config.default 0 [] ⟨[], 0⟩ ⟨[], 0⟩ ⟨[], 0⟩

/-- The trace in the order of R35: oldest event first. -/
def State.trace (s : State) : List Event := s.traceRev.reverse

/-- The results in the order the host received them (R219). -/
def State.results (s : State) : List OpResult := s.resultsRev.reverse

end Sys2Proof.Machine
end

