-- ==== Sys2Proof/Machine/Flags.lean ====
section
/-!
DEFINITION. The codes the spec numbers and the result word (spec 30_encoding.md R78): CODE, CAUSE and EMPTY. The block has
no condition codes (10_state.md R42): what an operation tells the host is its result.
-/

namespace Sys2Proof.Machine

/-- The four outcomes of an operation (R170). -/
inductive ResultCode where
  | ready
  | notReady
  | fault
  | refused
deriving DecidableEq, Repr

/-- CODE (R78). -/
def ResultCode.code : ResultCode → BitVec 2
  | .ready => 0#2
  | .notReady => 1#2
  | .fault => 2#2
  | .refused => 3#2

/-- The 8-bit cause codes (R171). -/
def Cause.code : Cause → Byte
  | .none => 0x00#8
  | .commFault => 0x01#8
  | .shortRow => 0x10#8
  | .longRow => 0x11#8
  | .notInitialized => 0x12#8
  | .frameOpen => 0x13#8
  | .noFrame => 0x14#8
  | .rowOverflow => 0x15#8
  | .frameIncomplete => 0x16#8
  | .fillRange => 0x17#8
  | .rowLoadLength => 0x18#8
  | .reservedOpcode => 0x19#8
  | .reservedField => 0x1A#8

/-- The 3-bit encoding of init_state (R24). -/
def InitState.code : InitState → BitVec 3
  | .uninit => 0#3
  | .resetting1 => 1#3
  | .resetting2 => 2#3
  | .resetting3 => 3#3
  | .initialized => 4#3

/-- The 32-bit result word: CODE in [1:0], CAUSE in [15:8], EMPTY in [16], every other bit 0 (R78). -/
def resultWord (code : ResultCode) (cause : Byte) (empty : Bool) : Word :=
  BitVec.ofNat 32 (code.code.toNat + cause.toNat * 2 ^ 8 + empty.toNat * 2 ^ 16)

/-- READY with no payload (R78). -/
def readyResult : OpResult := ⟨resultWord .ready 0#8 false, [], []⟩

/-- NOT_READY: the would-block signal (R170, R183). -/
def notReadyResult : OpResult := ⟨resultWord .notReady 0#8 false, [], []⟩

/-- FAULT with its cause (R78, R176). -/
def faultResult (c : Cause) : OpResult := ⟨resultWord .fault c.code false, [], []⟩

/-- REFUSED (R181). -/
def refusedResult : OpResult := ⟨resultWord .refused 0#8 false, [], []⟩

/-- CLIP_INTERSECT's result: READY with EMPTY, and the two bounds (R78, R142). -/
def clipResult (l r : Word) (empty : Bool) : OpResult := ⟨resultWord .ready 0#8 empty, [l, r], []⟩

/-- ROW_READ's result: READY and the row buffer's bytes, row_buf[0] first (R78, R150). -/
def rowResult (bytes : List Byte) : OpResult := ⟨resultWord .ready 0#8 false, [], bytes⟩

/-- The CODE field of a result word (R78). -/
def codeField (w : Word) : BitVec 2 := w.extractLsb' 0 2

/-- The CAUSE field of a result word (R78). -/
def causeField (w : Word) : Byte := w.extractLsb' 8 8

/-- The EMPTY field of a result word (R78). -/
def emptyField (w : Word) : Bool := w.getLsbD 16

end Sys2Proof.Machine
end

