-- ==== Sys2Proof/Machine/Operands.lean ====
section
/-!
DEFINITION. The operand forms: clip intervals and their intersection (spec 41_bitpacker.md R140, R141), the column-to-bit
map and the colour's bit (20_memory.md R51 to R53), edge masks (R144), and the byte sequences the framer sends
(30_encoding.md R80 to R84).
-/

namespace Sys2Proof.Machine

/-- The larger of two i32 (R141: max is on the signed values). -/
def maxWord (a b : Word) : Word := if a.toInt < b.toInt then b else a

/-- The smaller of two i32 (R141). -/
def minWord (a b : Word) : Word := if b.toInt < a.toInt then b else a

/-- A clip interval `[left, right)`; `left ≤ right` is not required (R140). -/
structure Interval where
  left : Word
  right : Word
deriving DecidableEq, Repr

/-- Intersection, bound by bound, with no normalisation of an empty result (R141). -/
def Interval.intersect (a b : Interval) : Interval := ⟨maxWord a.left b.left, minWord a.right b.right⟩

/-- `left ≥ right` (R140, R141). -/
def Interval.empty (a : Interval) : Bool := decide (a.right.toInt ≤ a.left.toInt)

/-- Column `c` belongs to the interval (R140). -/
def Interval.mem (a : Interval) (c : Int) : Bool := decide (a.left.toInt ≤ c ∧ c < a.right.toInt)

/-- The bit of its byte that column `c` stands at (R52). -/
def bitpos (o : BitOrder) (c : Nat) : Nat :=
  match o with
  | .msbFirst => 7 - c % 8
  | .lsbFirst => c % 8

/-- The bit that encodes a colour (R53). -/
def cbit (whiteBit : Level) (c : Color) : Level :=
  match c with
  | .white => whiteBit
  | .black => ~~~whiteBit

/-- The bits of `n` columns from column `a` on, one bit per column (R144). -/
def columnBits (o : BitOrder) (a : Nat) : Nat → Byte
  | 0 => 0#8
  | n + 1 => (1#8 <<< bitpos o a) ||| columnBits o (a + 1) n

/-- colmask(a, z): the bits of columns a to z, which lie in one byte (R144). -/
def colmask (o : BitOrder) (a z : Nat) : Byte := columnBits o a (z + 1 - a)

/-- A byte to send: its DC_OUT level and its value (R80). -/
abbrev WireByte := Level × Byte

/-- A command byte (R101). -/
def cmdByte (v : Byte) : WireByte := (0#1, v)

/-- A data byte (R101). -/
def dataByte (v : Byte) : WireByte := (1#1, v)

/-- The five bytes of the transition out of RESETTING2 (R112). -/
def boosterSequence (c : Config) : List WireByte :=
  [cmdByte c.opBoosterSoftStart, dataByte c.boosterP0, dataByte c.boosterP1, dataByte c.boosterP2, cmdByte c.opPowerOn]

/-- The two bytes of the transition out of RESETTING3 (R113). -/
def panelSequence (c : Config) : List WireByte := [cmdByte c.opPanelSetting, dataByte c.panelSettingP0]

/-- The frame-start command (R116). -/
def frameStartSequence (c : Config) : List WireByte := [cmdByte c.opDtm1]

/-- A row of the primary plane, verbatim and in index order (R54, R117). -/
def rowSequence (payload : List Byte) : List WireByte := payload.map dataByte

/-- END_FRAME's bytes: the plane-2 command, PLANE_BYTES bytes of RED_PLANE_BYTE, the refresh command (R118). -/
def frameEndSequence (c : Config) : List WireByte :=
  cmdByte c.opDtm2 :: (List.replicate c.planeBytes (dataByte redPlaneByte) ++ [cmdByte c.opDisplayRefresh])

/-- The six command codes the framer emits (R81, R83). -/
def commandCodes (c : Config) : List Byte :=
  [c.opBoosterSoftStart, c.opPowerOn, c.opPanelSetting, c.opDtm1, c.opDtm2, c.opDisplayRefresh]

end Sys2Proof.Machine
end

