-- ==== Sys2Proof/Machine/Ops.lean ====
section
/-!
DEFINITION. The shared operations: drawing an answer of the environment, the trace and the results, raising a fault
(spec 60_exceptions.md R176), refusing (R181), the block reset (70_reset_and_hazards.md R200), the common checks (R173,
R175), the framer's primitives (40_framer.md R100 to R108) and the accesses to the row buffer (20_memory.md R50, R58).
-/

namespace Sys2Proof.Machine

/-! ## Answers of the environment (R39 to R41; log entry 7) -/

/-- The answer `k` draws from now: laid out, or free. -/
def Tape.nth {α : Type} (free : Nat → α) (t : Tape α) (k : Nat) : α :=
  match t.given[k]? with
  | some a => a
  | none => free (t.drawn + k)

/-- The next answer. -/
def Tape.head {α : Type} (free : Nat → α) (t : Tape α) : α :=
  match t.given with
  | a :: _ => a
  | [] => free t.drawn

/-- The tape after one draw. -/
def Tape.tail {α : Type} (t : Tape α) : Tape α := ⟨t.given.tail, t.drawn + 1⟩

/-- The tape after `k` draws. -/
def Tape.drop {α : Type} (t : Tape α) (k : Nat) : Tape α := ⟨t.given.drop k, t.drawn + k⟩

/-- The level the next busy sample reads: 0 = busy, 1 = idle (R14, R39). -/
def State.busyLevel (s : State) : Level := s.busyIn.head Config.freeBusy

/-- Whether the next timer poll answers expired: a free answer of a fair timer (R40; log entry 8). -/
def State.timerExpired (s : State) : Bool := s.timerIn.head Config.freeExpiry

/-- The bus's answer to the next byte exchange (R41). -/
def State.busAnswer (s : State) : BusAnswer := s.busIn.head Config.freeExchange

/-- Whether the `k`-th byte exchange from now succeeds (R41). -/
def State.busOk (s : State) (k : Nat) : Bool := (s.busIn.nth Config.freeExchange k).ok

/-- Every one of the next `n` byte exchanges succeeds (R41). -/
def State.busOkFor (s : State) (n : Nat) : Bool := (List.range n).all s.busOk

/-! ## Trace and results -/

/-- Emit(e): append an event to the trace (R19, R35). -/
def emit (e : Event) (s : State) : State := { s with traceRev := e :: s.traceRev }

/-- return r: give the host the operation's result (R19, R78). -/
def answer (r : OpResult) (s : State) : State := { s with resultsRev := r :: s.resultsRev }

/-! ## Faults, refusal, reset -/

/-- raise Fault(cause): the one place a fault is taken (R176). It sets faulted and fault_cause, answers FAULT, and changes
nothing else: the block has no mode, no vector and no saved pc. There is no return from a fault (R179); only `blockReset`
clears one. -/
def raise (c : Cause) (s : State) : State :=
  answer (faultResult c) { s with faulted := true, faultCause := c }

/-- refuse: set refused and answer REFUSED (R181). -/
def refuse (s : State) : State := answer refusedResult { s with refused := true }

/-- RESET: every state element takes its reset value and a new run begins with an empty trace (R200, R201). It emits no
event (R202). The host's pending actions and the environment's answers are not block state. -/
def blockReset (s : State) : State :=
  State.resetWith s.config (s.resets + 1) s.hostIn s.busyIn s.timerIn s.busIn

/-- What a faulted block answers to any operation: FAULT with the recorded cause, nothing else changed (R178). -/
def answerFaulted (s : State) : State := answer (faultResult s.faultCause) s

/-- Steps 1 and 2 of the common checks, then the operation itself (R173, R175): a faulted block answers its fault (R178), a
refused block takes no step (R181). -/
def guarded (body : State → State) (s : State) : Host.Outcome State Fault Refusal :=
  if s.faulted then .next (answerFaulted s)
  else if s.refused then .fault .stuckAfterRefusal
  else .next (body s)

/-! ## Framer primitives -/

/-- SampleBusy(): one sample, its event appended (R105). The level read is `State.busyLevel`. -/
def sampleBusy (s : State) : State := emit (.busy s.busyLevel) { s with busyIn := s.busyIn.tail }

/-- TimerStart(ms) (R106). -/
def timerStart (ms : Nat) (s : State) : State :=
  emit (.timerStart ms) { s with timerRunning := true, timerPeriodMs := ms }

/-- TimerPoll(): one poll, its event appended; an expired answer clears timer_running (R106). The answer is
`State.timerExpired`. -/
def timerPoll (s : State) : State :=
  emit (.timerPoll s.timerExpired)
    { s with timerIn := s.timerIn.tail, timerRunning := s.timerRunning && !s.timerExpired }

/-- Delay(ms): only its event (R107). -/
def delay (ms : Nat) (s : State) : State := emit (.delay ms) s

/-- RstWrite(level) (R108). -/
def rstWrite (level : Level) (s : State) : State := emit (.rst level) { s with rstOut := level }

/-- DC_OUT <- dc (R100). -/
def driveDc (dc : Level) (s : State) : State := { s with dcOut := dc }

/-- CS_OUT <- c (R100, R102). -/
def driveCs (c : ChipSelect) (s : State) : State := { s with csOut := c }

/-- BusExchange(v): the bus's next answer is drawn; the received byte is discarded (R41, R103). The answer is
`State.busAnswer`. -/
def busExchange (s : State) : State := { s with busIn := s.busIn.tail }

/-- ByteXfer(dc, v): DC first, then one exchange inside one chip-select window, then the event, then COMM_FAULT if the bus
reported failure (R100, R102, R104). -/
def byteXfer (b : WireByte) (s : State) : State :=
  let ok := s.busAnswer.ok
  let sent := emit (.byte b.1 b.2 ok)
    (driveCs .deasserted (busExchange (driveCs .asserted (driveDc b.1 s))))
  if ok then sent else raise .commFault sent

/-- A sequence of SendCmd and SendData, stopped by the first failing exchange (R101, R104). -/
def sendAll : List WireByte → State → State
  | [], s => s
  | b :: bs, s =>
    let t := byteXfer b s
    if t.faulted then t else sendAll bs t

/-- The electrical level of CS_OUT (R14, R31): CS_ACTIVE_LEVEL while it is asserted. -/
def State.csLevel (s : State) : Level :=
  match s.csOut with
  | .asserted => s.config.csActiveLevel
  | .deasserted => ~~~s.config.csActiveLevel

/-! ## Row buffer -/

/-- The one form of the row buffer: exactly `n` bytes, at addresses 0 to n - 1 (R34, R50). -/
def Memory.wf (n : Nat) (m : Memory) : Bool := m.length == n

/-- row_buf[k]. -/
def Memory.read (m : Memory) (k : Nat) : Byte := m.getD k 0#8

/-- row_buf[k] <- v; an address outside the buffer is not written (no operation names one: R145, R149). -/
def Memory.write (m : Memory) (k : Nat) (v : Byte) : Memory := m.set k v

/-- apply(k, M, b): set or clear the bits of a mask (R145). -/
def applyMask (k : Nat) (mask : Byte) (b : Level) (m : Memory) : Memory :=
  m.write k (if b = 1#1 then m.read k ||| mask else m.read k &&& ~~~mask)

/-- Interior bytes: `n` bytes from byte `k` on, one write each (R145). -/
def fillBytes (b : Level) (k : Nat) : Nat → Memory → Memory
  | 0, m => m
  | n + 1, m => fillBytes b (k + 1) n (m.write k (if b = 1#1 then 0xFF#8 else 0x00#8))

/-- The masked fill of the columns `[l, r)`, l < r: one combined mask when both edges lie in one byte, else the left mask,
the interior, the right mask (R145). -/
def fillSpan (o : BitOrder) (b : Level) (l r : Nat) (m : Memory) : Memory :=
  let bl := l / 8
  let br := (r - 1) / 8
  if bl = br then applyMask bl (colmask o l (r - 1)) b m
  else
    applyMask br (colmask o (8 * br) (r - 1)) b
      (fillBytes b (bl + 1) (br - (bl + 1))
        (applyMask bl (colmask o l (8 * bl + 7)) b m))

/-- The stored bit of pixel column `c` (R51, R52). -/
def Memory.pixel (m : Memory) (o : BitOrder) (c : Nat) : Bool := (m.read (c / 8)).getLsbD (bitpos o c)

end Sys2Proof.Machine
end

