-- ==== Sys2Proof/Machine/BitPacker.lean ====
section
/-!
DEFINITION. The bit-packer's operations (spec 41_bitpacker.md): FILL, CLIP_INTERSECT, ROW_LOAD, ROW_READ. They depend on
neither init_state nor frame_open. Each body starts after the common checks (R175).
-/

namespace Sys2Proof.Machine

/-- FILL after the common checks (R145): the emptiness test comes before the range check. -/
def fillBody (color : Color) (clip span : Interval) (s : State) : State :=
  let e := clip.intersect span
  if e.empty then answer readyResult s
  else if e.left.toInt < 0 ∨ (s.config.columns : Int) < e.right.toInt then raise .fillRange s
  else
    answer readyResult
      { s with
        rowBuf := fillSpan s.config.bitOrder (cbit s.config.whiteBit color) e.left.toInt.toNat e.right.toInt.toNat
          s.rowBuf }

/-- FILL: set a column span of the row buffer to one colour, clipped (R145). -/
def execFill (color : Color) (clipLeft clipRight left right : Word) (s : State) :
    Host.Outcome State Fault Refusal :=
  guarded (fillBody color ⟨clipLeft, clipRight⟩ ⟨left, right⟩) s

/-- CLIP_INTERSECT after the common checks (R142). -/
def clipIntersectBody (a b : Interval) (s : State) : State :=
  let e := a.intersect b
  answer (clipResult e.left e.right e.empty) s

/-- CLIP_INTERSECT: compute an intersection for the host (R142). -/
def execClipIntersect (aLeft aRight bLeft bRight : Word) (s : State) : Host.Outcome State Fault Refusal :=
  guarded (clipIntersectBody ⟨aLeft, aRight⟩ ⟨bLeft, bRight⟩) s

/-- ROW_LOAD after the common checks; LEN is the payload's length (R72, R149). -/
def rowLoadBody (payload : List Byte) (s : State) : State :=
  if payload.length ≠ s.config.fillBytes then raise .rowLoadLength s
  else answer readyResult { s with rowBuf := payload }

/-- ROW_LOAD: write the whole row buffer (R149). -/
def execRowLoad (payload : List Byte) (s : State) : Host.Outcome State Fault Refusal := guarded (rowLoadBody payload) s

/-- ROW_READ after the common checks (R150). -/
def rowReadBody (s : State) : State := answer (rowResult s.rowBuf) s

/-- ROW_READ: read the whole row buffer (R150). -/
def execRowRead (s : State) : Host.Outcome State Fault Refusal := guarded rowReadBody s

end Sys2Proof.Machine
end

