-- ==== Sys2Proof/Machine/Framer.lean ====
section
/-!
DEFINITION. The framer's operations (spec 40_framer.md): INIT, START_FRAME, DRAW_ROW, END_FRAME and the refused
partial-refresh extension. Each body starts after the common checks, as the spec's pseudocode does (R175).
-/

namespace Sys2Proof.Machine

/-! ## INIT (R109 to R115) -/

/-- The action of UNINIT → RESETTING1 (R110). -/
def leaveUninit (s : State) : State :=
  { timerStart resetLowMs (rstWrite 0#1 s) with initState := .resetting1 }

/-- The action of RESETTING1 → RESETTING2 (R111). -/
def leaveResetting1 (s : State) : State :=
  { timerStart resetHighMs (rstWrite 1#1 s) with initState := .resetting2 }

/-- The action of RESETTING2 → RESETTING3: five bytes, and the state only if all were exchanged (R112, R104). -/
def leaveResetting2 (s : State) : State :=
  let t := sendAll (boosterSequence s.config) s
  if t.faulted then t else { t with initState := .resetting3 }

/-- The action of RESETTING3 → INITIALIZED: two bytes, and the state only if both were exchanged (R113, R104). -/
def leaveResetting3 (s : State) : State :=
  let t := sendAll (panelSequence s.config) s
  if t.faulted then t else { t with initState := .initialized }

/-- The loop of INIT with `n` transitions left (R109). Each exit test samples or polls afresh; a test that does not hold
ends the loop, and so does a fault. -/
def initLoop : Nat → State → State
  | 0, s => s
  | n + 1, s =>
    match s.initState with
    | .uninit =>
      if s.busyLevel = 0#1 then sampleBusy s else initLoop n (leaveUninit (sampleBusy s))
    | .resetting1 =>
      if s.timerExpired then initLoop n (leaveResetting1 (timerPoll s)) else timerPoll s
    | .resetting2 =>
      if s.timerExpired then
        let t := leaveResetting2 (timerPoll s)
        if t.faulted then t else initLoop n t
      else timerPoll s
    | .resetting3 =>
      if s.busyLevel = 0#1 then sampleBusy s
      else
        let t := leaveResetting3 (sampleBusy s)
        if t.faulted then t else initLoop n t
    | .initialized => s

/-- INIT after the common checks (R109, R114). -/
def initBody (s : State) : State :=
  if s.initState = .initialized then answer readyResult s
  else
    let t := initLoop s.config.initMaxTransitions s
    if t.faulted then t
    else if t.initState = .initialized then answer readyResult t
    else answer notReadyResult t

/-- INIT: advance the panel initialisation machine (R109). -/
def execInit (s : State) : Host.Outcome State Fault Refusal := guarded initBody s

/-! ## Frames (R116 to R118) -/

/-- START_FRAME after the common checks (R116). -/
def startFrameBody (s : State) : State :=
  if s.initState ≠ .initialized then raise .notInitialized s
  else if s.frameOpen then raise .frameOpen s
  else if s.busyLevel = 0#1 then answer notReadyResult (sampleBusy s)
  else
    let t := sendAll (frameStartSequence s.config) (sampleBusy s)
    if t.faulted then t
    else answer readyResult { delay frameSettleMs t with frameOpen := true, rowsSent := 0 }

/-- START_FRAME: open a frame, gated by the busy signal (R116). -/
def execStartFrame (s : State) : Host.Outcome State Fault Refusal := guarded startFrameBody s

/-- DRAW_ROW after the common checks; LEN is the payload's length (R72, R117). -/
def drawRowBody (payload : List Byte) (s : State) : State :=
  if !s.frameOpen then raise .noFrame s
  else if s.rowsSent = s.config.height then raise .rowOverflow s
  else if payload.length < s.config.rowBytes then raise .shortRow s
  else if s.config.rowBytes < payload.length then raise .longRow s
  else
    let t := sendAll (rowSequence payload) s
    if t.faulted then t else answer readyResult { t with rowsSent := t.rowsSent + 1 }

/-- DRAW_ROW: send one row of the primary plane (R117). -/
def execDrawRow (payload : List Byte) (s : State) : Host.Outcome State Fault Refusal := guarded (drawRowBody payload) s

/-- END_FRAME after the common checks (R118). -/
def endFrameBody (s : State) : State :=
  if !s.frameOpen then raise .noFrame s
  else if s.rowsSent ≠ s.config.height then raise .frameIncomplete s
  else
    let t := sendAll (frameEndSequence s.config) s
    if t.faulted then t
    else answer readyResult { delay refreshGraceMs t with frameOpen := false, rowsSent := 0 }

/-- END_FRAME: send the secondary plane, refresh, wait out the grace period (R118). -/
def execEndFrame (s : State) : Host.Outcome State Fault Refusal := guarded endFrameBody s

/-! ## Partial refresh (R119 to R121) -/

/-- START_PARTIAL: refused in every state the common checks let through; its operands are not looked at (R119). -/
def execStartPartial (_left _top _right _bottom : Word) (s : State) : Host.Outcome State Fault Refusal := guarded refuse s

/-- DRAW_PARTIAL_ROW: refused whatever LEN is (R120). -/
def execDrawPartialRow (_payload : List Byte) (s : State) : Host.Outcome State Fault Refusal := guarded refuse s

/-- END_PARTIAL: refused (R121). -/
def execEndPartial (s : State) : Host.Outcome State Fault Refusal := guarded refuse s

end Sys2Proof.Machine
end

