-- ==== Sys2Proof/Machine/Dispatch.lean ====
section
/-! DEFINITION. The meaning of each operation of the opcode map (spec 30_encoding.md R73): one arm per constructor. -/

namespace Sys2Proof.Machine
open Sys2Proof

def exec (i : Instr) (s : State) : Host.Outcome State Fault Refusal :=
  match i with
  | .init => Sys2Proof.Machine.execInit s
  | .startFrame => Sys2Proof.Machine.execStartFrame s
  | .drawRow payload => Sys2Proof.Machine.execDrawRow payload s
  | .endFrame => Sys2Proof.Machine.execEndFrame s
  | .startPartial left top right bottom => Sys2Proof.Machine.execStartPartial left top right bottom s
  | .drawPartialRow payload => Sys2Proof.Machine.execDrawPartialRow payload s
  | .endPartial => Sys2Proof.Machine.execEndPartial s
  | .fill color clipLeft clipRight left right => Sys2Proof.Machine.execFill color clipLeft clipRight left right s
  | .clipIntersect aLeft aRight bLeft bRight => Sys2Proof.Machine.execClipIntersect aLeft aRight bLeft bRight s
  | .rowLoad payload => Sys2Proof.Machine.execRowLoad payload s
  | .rowRead => Sys2Proof.Machine.execRowRead s

end Sys2Proof.Machine
end

