-- ==== Sys2Proof/WellFormed.lean ====
section
/-!
DEFINITION. Which terms of Instr are operations a descriptor can carry: LEN is a 16-bit field, so a payload has at most
65535 bytes (spec 30_encoding.md R70, R72).
-/

namespace Sys2Proof

/-- LEN may be any value 0..65535 (R72). -/
def payloadFits (payload : List Byte) : Bool := payload.length < 65536

/-- The instruction is one that some descriptor encodes. -/
def Instr.wf : Instr → Bool
  | .init => true
  | .startFrame => true
  | .drawRow p => payloadFits p
  | .endFrame => true
  | .startPartial _ _ _ _ => true
  | .drawPartialRow p => payloadFits p
  | .endPartial => true
  | .fill _ _ _ _ _ => true
  | .clipIntersect _ _ _ _ => true
  | .rowLoad p => payloadFits p
  | .rowRead => true

end Sys2Proof
end

