-- ==== Sys2Proof/Decode.lean ====
section
/-!
DEFINITION. The decoder (spec 30_encoding.md R70 to R77), total on any descriptor and rejecting by name, and the encoder
written from the same tables. The decoder reads word0 first (R76); the operand words and the payload only after word0 is
accepted.
-/

namespace Sys2Proof

/-- Why a descriptor is not an operation. -/
inductive DecodeError where
  /-- OPC is not in the opcode map (R74). -/
  | reservedOpcode
  /-- A reserved field of word0 is not 0 (R75). -/
  | reservedField
  /-- The number of operand words or of payload bytes is not the one R77 gives for this word0: not a descriptor of the
  spec's format (log entry 12). -/
  | wrongShape
deriving DecidableEq, Repr

/-- The three shapes of R77: word0 alone, word0 and four operand words, word0 and a payload. -/
inductive Format where
  | w1
  | w5
  | wp
deriving DecidableEq, Repr

/-- The rows of the opcode map (R73). -/
inductive Opcode where
  | init | startFrame | drawRow | endFrame | startPartial | drawPartialRow | endPartial
  | fill | clipIntersect | rowLoad | rowRead
deriving DecidableEq, Repr

/-- Every row, in the order of the opcode map (R73). -/
def Opcode.all : List Opcode :=
  [.init, .startFrame, .drawRow, .endFrame, .startPartial, .drawPartialRow, .endPartial,
    .fill, .clipIntersect, .rowLoad, .rowRead]

/-- OPC (R73). -/
def Opcode.code : Opcode → Byte
  | .init => 0x01#8
  | .startFrame => 0x02#8
  | .drawRow => 0x03#8
  | .endFrame => 0x04#8
  | .startPartial => 0x05#8
  | .drawPartialRow => 0x06#8
  | .endPartial => 0x07#8
  | .fill => 0x10#8
  | .clipIntersect => 0x11#8
  | .rowLoad => 0x12#8
  | .rowRead => 0x13#8

/-- The shape of the operation's descriptor (R77). -/
def Opcode.format : Opcode → Format
  | .init => .w1
  | .startFrame => .w1
  | .drawRow => .wp
  | .endFrame => .w1
  | .startPartial => .w5
  | .drawPartialRow => .wp
  | .endPartial => .w1
  | .fill => .w5
  | .clipIntersect => .w5
  | .rowLoad => .wp
  | .rowRead => .w1

/-- The bits of word0 that are not fields (R76): all of them, all but C for FILL, all but LEN for the payload operations. -/
def Opcode.mask : Opcode → Word
  | .init => 0xFFFFFFFF#32
  | .startFrame => 0xFFFFFFFF#32
  | .drawRow => 0x0000FFFF#32
  | .endFrame => 0xFFFFFFFF#32
  | .startPartial => 0xFFFFFFFF#32
  | .drawPartialRow => 0x0000FFFF#32
  | .endPartial => 0xFFFFFFFF#32
  | .fill => 0xFFFFFEFF#32
  | .clipIntersect => 0xFFFFFFFF#32
  | .rowLoad => 0x0000FFFF#32
  | .rowRead => 0xFFFFFFFF#32

/-- The value of those bits: zext_32(opc) (R76). -/
def Opcode.pattern (o : Opcode) : Word := o.code.zeroExtend 32

/-- OPC = word0[7:0] (R70). -/
def opcField (w : Word) : Byte := w.extractLsb' 0 8

/-- C = word0[8] (R70). -/
def colorField (w : Word) : Color := if w.getLsbD 8 then .white else .black

/-- LEN = word0[31:16] (R70). -/
def lenField (w : Word) : Nat := (w.extractLsb' 16 16).toNat

/-- The opcode map read from OPC (R73); none for a reserved opcode (R74). -/
def opcodeOf (b : Byte) : Option Opcode := Opcode.all.find? (fun o => o.code == b)

/-- The decode function of R76 on word0 alone. -/
def decodeWord0 (w : Word) : Except DecodeError Opcode :=
  match opcodeOf (opcField w) with
  | none => .error .reservedOpcode
  | some o => if w &&& o.mask = o.pattern then .ok o else .error .reservedField

/-- An operation without operand words or payload (format W1). -/
def readW1 (i : Instr) (d : Descriptor) : Except DecodeError Instr :=
  match d.operands, d.payload with
  | [], [] => .ok i
  | _, _ => .error .wrongShape

/-- An operation with four operand words, in the order listed (format W5, R71). -/
def readW5 (f : Word → Word → Word → Word → Instr) (d : Descriptor) : Except DecodeError Instr :=
  match d.operands, d.payload with
  | [a, b, c, e], [] => .ok (f a b c e)
  | _, _ => .error .wrongShape

/-- An operation with a payload of LEN bytes (format WP, R72). -/
def readWp (f : List Byte → Instr) (d : Descriptor) : Except DecodeError Instr :=
  match d.operands with
  | [] => if d.payload.length = lenField d.word0 then .ok (f d.payload) else .error .wrongShape
  | _ => .error .wrongShape

/-- The operands the opcode map lists for the operation (R73). -/
def readOperands (o : Opcode) (d : Descriptor) : Except DecodeError Instr :=
  match o with
  | .init => readW1 .init d
  | .startFrame => readW1 .startFrame d
  | .drawRow => readWp .drawRow d
  | .endFrame => readW1 .endFrame d
  | .startPartial => readW5 .startPartial d
  | .drawPartialRow => readWp .drawPartialRow d
  | .endPartial => readW1 .endPartial d
  | .fill => readW5 (.fill (colorField d.word0)) d
  | .clipIntersect => readW5 .clipIntersect d
  | .rowLoad => readWp .rowLoad d
  | .rowRead => readW1 .rowRead d

/-- Decode a descriptor: word0 by R76, then the operands by R71 to R73. -/
def decode (d : Descriptor) : Except DecodeError Instr :=
  match decodeWord0 d.word0 with
  | .error e => .error e
  | .ok o => readOperands o d

/-! ## The encoder, from R70 and R73 -/

/-- The colour's bit in word0: 1 = WHITE, 0 = BLACK (R70). -/
def Color.field : Color → Nat
  | .black => 0
  | .white => 1

/-- word0 = OPC in [7:0], C in [8], LEN in [31:16] (R70). -/
def packWord0 (o : Opcode) (c : Nat) (len : Nat) : Word := BitVec.ofNat 32 (o.code.toNat + c * 2 ^ 8 + len * 2 ^ 16)

/-- The operation's row of the opcode map (R73). -/
def Instr.opcode : Instr → Opcode
  | .init => .init
  | .startFrame => .startFrame
  | .drawRow _ => .drawRow
  | .endFrame => .endFrame
  | .startPartial _ _ _ _ => .startPartial
  | .drawPartialRow _ => .drawPartialRow
  | .endPartial => .endPartial
  | .fill _ _ _ _ _ => .fill
  | .clipIntersect _ _ _ _ => .clipIntersect
  | .rowLoad _ => .rowLoad
  | .rowRead => .rowRead

/-- The descriptor of an operation (R70 to R73). -/
def encode : Instr → Descriptor
  | .init => ⟨packWord0 .init 0 0, [], []⟩
  | .startFrame => ⟨packWord0 .startFrame 0 0, [], []⟩
  | .drawRow p => ⟨packWord0 .drawRow 0 p.length, [], p⟩
  | .endFrame => ⟨packWord0 .endFrame 0 0, [], []⟩
  | .startPartial l t r b => ⟨packWord0 .startPartial 0 0, [l, t, r, b], []⟩
  | .drawPartialRow p => ⟨packWord0 .drawPartialRow 0 p.length, [], p⟩
  | .endPartial => ⟨packWord0 .endPartial 0 0, [], []⟩
  | .fill c cl cr l r => ⟨packWord0 .fill c.field 0, [cl, cr, l, r], []⟩
  | .clipIntersect al ar bl br => ⟨packWord0 .clipIntersect 0 0, [al, ar, bl, br], []⟩
  | .rowLoad p => ⟨packWord0 .rowLoad 0 p.length, [], p⟩
  | .rowRead => ⟨packWord0 .rowRead 0 0, [], []⟩

/-! ## Descriptors given as one number

The opcode table numbers an operation's bits from bit 0 of word0; operand words and payload bytes count on from bit 32.
The host port delivers words and bytes, not memory, so no byte order arises (N26, R72; log entry 11). -/

/-- `n` words of `v`, 32 bits each, the lowest first. -/
def wordsOf : Nat → Nat → List Word
  | 0, _ => []
  | n + 1, v => BitVec.ofNat 32 v :: wordsOf n (v / 2 ^ 32)

/-- `n` bytes of `v`, the lowest first. -/
def bytesOf : Nat → Nat → List Byte
  | 0, _ => []
  | n + 1, v => BitVec.ofNat 8 v :: bytesOf n (v / 2 ^ 8)

/-- The descriptor whose bits are the low `nbits` bits of `w`, every bit above them 0, with as many operand words and
payload bytes as word0 calls for (R77). A reserved opcode takes none (R74). -/
def descriptorOfNat (nbits w : Nat) : Descriptor :=
  let v := w % 2 ^ nbits
  let word0 : Word := BitVec.ofNat 32 v
  match (opcodeOf (opcField word0)).map Opcode.format with
  | some .w5 => ⟨word0, wordsOf 4 (v / 2 ^ 32), []⟩
  | some .wp => ⟨word0, [], bytesOf (lenField word0) (v / 2 ^ 32)⟩
  | _ => ⟨word0, [], []⟩

/-- The instruction the decoder reads from an operation whose bits are `w`, numbered as the opcode table numbers them. -/
def decodeTableWord (nbits w : Nat) : Option Instr :=
  match decode (descriptorOfNat nbits w) with
  | .ok i => some i
  | .error _ => none

end Sys2Proof
end

