-- ==== Sys2Proof/Machine/Port.lean ====
section
/-!
DEFINITION. The host port (spec 10_state.md R21, R23, R37): which operation comes next, the checks made before an operation
is known (60_exceptions.md R173 steps 1 to 3), and RESET between operations (70_reset_and_hazards.md R200).
-/

namespace Sys2Proof.Machine

/-- What the port gives a step: the step is done, or a decoded operation is to be run. -/
inductive Fetched where
  | done (o : Host.Outcome State Fault Refusal)
  | run (i : Instr) (s : State)
deriving Repr

/-- The outcome of a descriptor that does not decode: the faults of R74 and R75, or the model's own stop for a delivery of
another shape (log entry 12). -/
def decodeFailed (e : DecodeError) (s : State) : Host.Outcome State Fault Refusal :=
  match e with
  | .reservedOpcode => .next (raise .reservedOpcode s)
  | .reservedField => .next (raise .reservedField s)
  | .wrongShape => .fault .malformedDescriptor

/-- A descriptor at the port, taken through the checks in the order of R173: a faulted block does not decode it (R178), a
refused block takes no step (R181), then it is decoded (R76). -/
def deliver (d : Descriptor) (s : State) : Fetched :=
  if s.faulted then .done (.next (answerFaulted s))
  else if s.refused then .done (.fault .stuckAfterRefusal)
  else
    match decode d with
    | .ok i => .run i s
    | .error e => .done (decodeFailed e s)

/-- The host's next action leaves the queue as it is taken (R21). With none, the block waits and nothing changes
(R21, R204; log entry 9). -/
def fetch (s : State) : Fetched :=
  match s.hostIn with
  | [] => .done (.next s)
  | .reset :: rest => .done (.next (blockReset { s with hostIn := rest }))
  | .issue d :: rest => deliver d { s with hostIn := rest }

/-- Put an operation first among the host's pending actions. -/
def placeNext (d : Descriptor) (s : State) : State := { s with hostIn := .issue d :: s.hostIn }

end Sys2Proof.Machine
end

