-- ==== Sys2Proof/Machine/Step.lean ====
section
/-!
DEFINITION. One step of the machine: the host's next action, carried out to its end (spec 10_state.md R21). Also the
placing of an operation where the next step takes it.
-/

namespace Sys2Proof.Machine

/-- One step: RESET, or one operation from descriptor to result; or nothing, while the host issues nothing (R21). -/
def step (s : State) : Host.Outcome State Fault Refusal :=
  match fetch s with
  | .done o => o
  | .run i t => exec i t

/-- The operation whose bits are `w`, first in the host's queue (log entry 9). -/
def State.withFetchWord (s : State) (nbits w : Nat) : State := placeNext (descriptorOfNat nbits w) s

end Sys2Proof.Machine
end

