-- ==== Sys2Proof/Assembler.lean ====
section
/-!
DEFINITION. The assembler's writing of an operation (spec 30_encoding.md R85): one operation a line, numbers in decimal.
-/

namespace Sys2Proof

/-- Items joined by comma and space. -/
def commaList : List String → String
  | [] => ""
  | [x] => x
  | x :: y :: rest => x ++ ", " ++ commaList (y :: rest)

/-- A coordinate, signed (R17, R85). -/
def asmInt (w : Word) : String := toString w.toInt

/-- A half-open interval (R85). -/
def asmInterval (l r : Word) : String := "[" ++ asmInt l ++ ", " ++ asmInt r ++ ")"

/-- A payload's bytes, in index order (R85). -/
def asmBytes (p : List Byte) : String := commaList (p.map (fun b => toString b.toNat))

/-- The mnemonic and its operands (R85); FILL's colour is part of its mnemonic. -/
def Instr.asm : Instr → String
  | .init => "INIT"
  | .startFrame => "START_FRAME"
  | .drawRow p => "DRAW_ROW " ++ asmBytes p
  | .endFrame => "END_FRAME"
  | .startPartial l t r b => "START_PARTIAL " ++ commaList [asmInt l, asmInt t, asmInt r, asmInt b]
  | .drawPartialRow p => "DRAW_PARTIAL_ROW " ++ asmBytes p
  | .endPartial => "END_PARTIAL"
  | .fill .white cl cr l r => "FILL.W " ++ asmInterval cl cr ++ ", " ++ asmInterval l r
  | .fill .black cl cr l r => "FILL.B " ++ asmInterval cl cr ++ ", " ++ asmInterval l r
  | .clipIntersect al ar bl br => "CLIP_INTERSECT " ++ asmInterval al ar ++ ", " ++ asmInterval bl br
  | .rowLoad p => "ROW_LOAD " ++ asmBytes p
  | .rowRead => "ROW_READ"

end Sys2Proof
end

