-- ==== Sys2Proof/Machine/HostOps.lean ====
section
/-!
DEFINITION. The pseudo-instructions (spec 30_encoding.md R86): host-side sequences of operations, not operations of the
block. Each is run as the host would issue it, one operation after the other's result (10_state.md R21).
-/

namespace Sys2Proof.Machine

/-- Issue operations one after another, to the first that has no next state. -/
def runAll : List Instr → State → Host.Outcome State Fault Refusal
  | [], s => .next s
  | i :: is, s =>
    match exec i s with
    | .next t => runAll is t
    | .fault r => .fault r
    | .refused r => .refused r

/-- The result of the last operation, as the host received it. -/
def State.lastResult (s : State) : Option OpResult := s.resultsRev.head?

/-- The CODE of the last result (R78). -/
def State.lastCode (s : State) : Option (BitVec 2) := s.lastResult.map (fun r => codeField r.word)

/-- Issue an operation until its result is not NOT_READY, at most `n` times (R86; R183: the host must issue it again). -/
def issueUntilReady (i : Instr) : Nat → State → Host.Outcome State Fault Refusal
  | 0, s => .next s
  | n + 1, s =>
    match exec i s with
    | .next t => if t.lastCode = some ResultCode.notReady.code then issueUntilReady i n t else .next t
    | .fault r => .fault r
    | .refused r => .refused r

/-- INIT_WAIT (R86), at most `n` issues. -/
def initWait (n : Nat) (s : State) : Host.Outcome State Fault Refusal := issueUntilReady .init n s

/-- START_FRAME_WAIT (R86), at most `n` issues. -/
def startFrameWait (n : Nat) (s : State) : Host.Outcome State Fault Refusal := issueUntilReady .startFrame n s

/-- ROW_CLEAR.W and ROW_CLEAR.B: FILL over all the columns (R86). -/
def rowClear (c : Config) (color : Color) : Instr :=
  .fill color 0#32 (BitVec.ofNat 32 c.columns) 0#32 (BitVec.ofNat 32 c.columns)

/-- SEND_ROW: ROW_READ, then DRAW_ROW with the bytes read (R86). The host uses it only when FILL_BYTES = ROW_BYTES. -/
def sendRow (s : State) : Host.Outcome State Fault Refusal :=
  match exec .rowRead s with
  | .next t => exec (.drawRow ((t.lastResult.map OpResult.bytes).getD [])) t
  | .fault r => .fault r
  | .refused r => .refused r

/-- The operations of a frame after START_FRAME has returned READY (R86, R207). -/
def frameOps (rows : List (List Byte)) : List Instr := rows.map .drawRow ++ [.endFrame]

/-- SEND_FRAME: START_FRAME_WAIT of at most `n` issues, then the rows and END_FRAME (R86). The host goes on only when
START_FRAME returned READY. -/
def sendFrame (n : Nat) (rows : List (List Byte)) (s : State) : Host.Outcome State Fault Refusal :=
  match startFrameWait n s with
  | .next t => if t.lastCode = some ResultCode.ready.code then runAll (frameOps rows) t else .next t
  | .fault r => .fault r
  | .refused r => .refused r

end Sys2Proof.Machine
end

