-- ==== Sys2Proof/Safety.lean ====
section
/-!
DEFINITION. The terms claims are stated in: a run that has not failed (spec 70_reset_and_hazards.md R219), what stands on
the panel wire, the invariants of the machine, and the column sets of a fill.
-/

namespace Sys2Proof.Machine

/-- Neither faulted nor refused: the block carries out the next operation (R173), and a run that ends here ends well
(R219). -/
abbrev State.Live (s : State) : Prop := s.faulted = false ∧ s.refused = false

/-! ## The timer -/

/-- Fairness of a sequence of poll answers (R40): whenever polling starts, and if it goes on, some poll answers expired. -/
def FairExpiry (f : Nat → Bool) : Prop := ∀ n, ∃ m, n ≤ m ∧ f m = true

/-- The TIMER's answers to come, the laid-out ones and then the free ones, are fair (R40). -/
def State.TimerFair (s : State) : Prop := FairExpiry (s.timerIn.nth Config.freeExpiry)

/-- The state after `n` polls of the timer and nothing else (R106). -/
def pollTimes : Nat → State → State
  | 0, s => s
  | n + 1, s => pollTimes n (timerPoll s)

/-! ## The machine's own invariants -/

/-- The row buffer has its one form (R34, R50). -/
abbrev State.RowForm (s : State) : Prop := Memory.wf s.config.fillBytes s.rowBuf = true

/-- rows_sent stays within 0..HEIGHT and is 0 outside a frame; a frame is open only after initialisation
(R26, R27, R116, R118). -/
abbrev State.FrameForm (s : State) : Prop :=
  s.rowsSent ≤ s.config.height ∧ (s.frameOpen = false → s.rowsSent = 0) ∧
    (s.frameOpen = true → s.initState = .initialized)

/-- fault_cause is NONE exactly while faulted is 0 (R28, R171). -/
abbrev State.FaultForm (s : State) : Prop := s.faulted = true ↔ s.faultCause ≠ .none

/-- Between operations CS_OUT is DEASSERTED (R31, R102); RST_OUT is asserted exactly in RESETTING1 (R110, R111); a running
timer runs with a 100 ms period, in RESETTING1 or RESETTING2 (R33, R106). -/
abbrev State.LineForm (s : State) : Prop :=
  s.csOut = .deasserted ∧ (s.rstOut = 0#1 ↔ s.initState = .resetting1) ∧
    (s.timerRunning = true → s.timerPeriodMs = 100 ∧ (s.initState = .resetting1 ∨ s.initState = .resetting2))

/-- The event is a byte exchange the bus reported as failed. -/
def Event.fails : Event → Bool
  | .byte _ _ ok => !ok
  | _ => false

/-- Only the newest event may be a failed exchange, and it is one exactly when COMM_FAULT is recorded (R104, R172). -/
abbrev State.CommForm (s : State) : Prop :=
  s.traceRev.tail.all (fun e => !e.fails) = true ∧ (s.traceRev.head?.any Event.fails = true ↔ s.faultCause = .commFault)

/-! ## What stands on the wire -/

/-- The byte an event put on the wire (R80). -/
def Event.wireByte : Event → Option WireByte
  | .byte dc v _ => some (dc, v)
  | _ => none

/-- The panel wire: the bytes exchanged since reset, in order (R50). -/
def State.wire (s : State) : List WireByte := s.trace.filterMap Event.wireByte

/-- The level of a reset-line event (R35). -/
def Event.rstLevel : Event → Option Level
  | .rst l => some l
  | _ => none

/-- The period of a timer start event (R35). -/
def Event.startPeriod : Event → Option Nat
  | .timerStart ms => some ms
  | _ => none

/-- A sample of the busy input or a poll of the timer (R35). -/
def Event.isDraw : Event → Bool
  | .busy _ => true
  | .timerPoll _ => true
  | _ => false

/-- The wire of a block without a fault, by how far its initialisation and its frame have come (R112, R113, R116 to R118,
R123): the bytes of the initialisation, then whole frames, then the rows of the open frame. -/
inductive WireShape (c : Config) : InitState → Bool → Nat → List WireByte → Prop
  | uninit : WireShape c .uninit false 0 []
  | resetting1 : WireShape c .resetting1 false 0 []
  | resetting2 : WireShape c .resetting2 false 0 []
  | resetting3 : WireShape c .resetting3 false 0 (boosterSequence c)
  | initialized : WireShape c .initialized false 0 (boosterSequence c ++ panelSequence c)
  | start (w : List WireByte) (h : WireShape c .initialized false 0 w) :
      WireShape c .initialized true 0 (w ++ frameStartSequence c)
  | row (n : Nat) (w : List WireByte) (p : List Byte) (hp : p.length = c.rowBytes) (hn : n < c.height)
      (h : WireShape c .initialized true n w) :
      WireShape c .initialized true (n + 1) (w ++ rowSequence p)
  | finish (w : List WireByte) (h : WireShape c .initialized true c.height w) :
      WireShape c .initialized false 0 (w ++ frameEndSequence c)

/-- The wire's invariant (R123): whole groups of bytes while there is no fault; after a fault, such a wire cut off. -/
def State.WireForm (s : State) : Prop :=
  (s.faulted = false → WireShape s.config s.initState s.frameOpen s.rowsSent s.wire) ∧
    (s.faulted = true → ∃ i f n rest, WireShape s.config i f n (s.wire ++ rest))

/-- The reset-line levels driven so far, by initialisation state (R110, R111, R115). -/
def rstLevels : InitState → List Level
  | .uninit => []
  | .resetting1 => [0#1]
  | .resetting2 => [0#1, 1#1]
  | .resetting3 => [0#1, 1#1]
  | .initialized => [0#1, 1#1]

/-- The timer periods started so far, by initialisation state (R110, R111, R115). -/
def startPeriods : InitState → List Nat
  | .uninit => []
  | .resetting1 => [100]
  | .resetting2 => [100, 100]
  | .resetting3 => [100, 100]
  | .initialized => [100, 100]

/-- The initialisation's record on the trace (R115): over any number of INIT operations, the reset line goes 0 then 1 and
the timer starts twice with 100 ms. -/
abbrev State.InitForm (s : State) : Prop :=
  s.trace.filterMap Event.rstLevel = rstLevels s.initState ∧
    s.trace.filterMap Event.startPeriod = startPeriods s.initState

/-- Every command byte (dc = 0) on the wire is one of the six of R81 (R83). -/
abbrev State.CommandForm (s : State) : Prop := ∀ b ∈ s.wire, b.1 = 0#1 → b.2 ∈ commandCodes s.config

/-- How far the initialisation has come: the state's place in the list of R25. -/
def InitState.rank (i : InitState) : Nat := i.code.toNat

/-! ## Reserved descriptors -/

/-- The opcodes that 30_encoding.md R74 lists as reserved. -/
abbrev reservedOpcodeByte (opc : Nat) : Prop := opc = 0x00 ∨ (0x08 ≤ opc ∧ opc ≤ 0x0F) ∨ (0x14 ≤ opc ∧ opc ≤ 0xFF)

/-- A nonzero reserved field in the sense of 30_encoding.md R75, on an opcode that is not reserved. -/
abbrev reservedFieldNonzero (w : Word) : Prop :=
  w.extractLsb' 9 7 ≠ 0#7 ∨ (w.getLsbD 8 = true ∧ w.extractLsb' 0 8 ≠ 0x10#8) ∨
    (w.extractLsb' 16 16 ≠ 0#16 ∧ w.extractLsb' 0 8 ≠ 0x03#8 ∧ w.extractLsb' 0 8 ≠ 0x06#8 ∧
      w.extractLsb' 0 8 ≠ 0x12#8)

/-! ## Column sets -/

/-- M_k: the mask of the columns of `[l, r)` that lie in byte k (R146). -/
def spanMask (o : BitOrder) (l r k : Nat) : Byte :=
  (List.range 8).foldl (fun m j => if l ≤ 8 * k + j ∧ 8 * k + j < r then m ||| (1#8 <<< bitpos o (8 * k + j)) else m) 0#8

/-- The clipped span is inside the row buffer, `[0, 8·FILL_BYTES)` (R145). -/
abbrev State.SpanFits (s : State) (e : Interval) : Prop :=
  0 ≤ e.left.toInt ∧ e.right.toInt ≤ (s.config.columns : Int)

/-! ## Forgetting the received bytes -/

/-- The same bus answers with every received byte replaced by 0 (R103). -/
def State.eraseRx (s : State) : State :=
  { s with busIn := { s.busIn with given := s.busIn.given.map (fun a => { a with rx := 0#8 }) } }

/-- A function on the state, applied to the next state of an outcome. -/
def mapNext (f : State → State) : Host.Outcome State Fault Refusal → Host.Outcome State Fault Refusal
  | .next s => .next (f s)
  | .fault r => .fault r
  | .refused r => .refused r

end Sys2Proof.Machine
end

