-- ==== Sys2Proof/Certificates/Slice0/Obligations.lean ====
section
/-!
DEFINITION. The statements for the provers. Each docstring names the rules of the spec it formalises. A state is written
out as an update of the state before, so a statement says what changes and that nothing else does.
-/

open Sys2Proof Sys2Proof.Machine

/-! ## Encoding -/

/-- 30_encoding.md R70 to R73, R76: the descriptor of every well-formed operation decodes to that operation, with every
operand at every value. -/
def Obligations.DecodeOfEncodeIsTheOperation : Prop :=
  ∀ i : Instr, i.wf = true → decode (encode i) = .ok i

/-- 30_encoding.md R70 to R77: a descriptor that decodes is the one descriptor of its operation. -/
def Obligations.EncodeOfDecodedIsTheDescriptor : Prop :=
  ∀ (d : Descriptor) (i : Instr), decode d = .ok i → encode i = d ∧ i.wf = true

/-- 30_encoding.md R73, 95_test_vectors.md P3 and sections 2.3 and 2.5: words written out from the encoding tables. -/
def Obligations.WordsOfTheOpcodeMapDecode : Prop :=
  decode ⟨0x00000001#32, [], []⟩ = .ok .init ∧
  decode ⟨0x00020003#32, [], [0xA5#8, 0x5A#8]⟩ = .ok (.drawRow [0xA5#8, 0x5A#8]) ∧
  decode ⟨0x00000005#32, [0#32, 0#32, 8#32, 8#32], []⟩ = .ok (.startPartial 0#32 0#32 8#32 8#32) ∧
  decode ⟨0x00000110#32, [0#32, 0x190#32, 4#32, 0x10#32], []⟩ = .ok (.fill .white 0#32 0x190#32 4#32 0x10#32) ∧
  decode ⟨0x00000010#32, [0#32, 0x190#32, 0x96#32, 0x98#32], []⟩ = .ok (.fill .black 0#32 0x190#32 0x96#32 0x98#32) ∧
  decode ⟨0x00040012#32, [], [0x11#8, 0x22#8, 0x33#8, 0x44#8]⟩ = .ok (.rowLoad [0x11#8, 0x22#8, 0x33#8, 0x44#8]) ∧
  decode ⟨0x00000108#32, [], []⟩ = .error .reservedOpcode ∧
  decode ⟨0x00320103#32, [], []⟩ = .error .reservedField

/-- 30_encoding.md R74: exactly the listed opcodes are reserved, and one raises RESERVED_OPCODE, whatever its other fields,
operand words and payload are, with no other change of state than the fault and its result. -/
def Obligations.ReservedOpcodeFaults : Prop :=
  (∀ w : Word, decodeWord0 w = .error .reservedOpcode ↔ reservedOpcodeByte (w.extractLsb' 0 8).toNat) ∧
  ∀ (s : State) (d : Descriptor) (rest : List HostEvent), s.Live → s.hostIn = .issue d :: rest →
    reservedOpcodeByte (d.word0.extractLsb' 0 8).toNat →
    step s = .next { s with
      hostIn := rest
      faulted := true
      faultCause := .reservedOpcode
      resultsRev := ⟨0x00001902#32, [], []⟩ :: s.resultsRev }

/-- 30_encoding.md R75: a listed opcode with a nonzero reserved field raises RESERVED_FIELD; in mask form, a listed opcode's
word is well formed iff (word0 & mask) = match. -/
def Obligations.ReservedFieldFaults : Prop :=
  (∀ (w : Word) (o : Opcode), opcodeOf (w.extractLsb' 0 8) = some o →
    (w &&& o.mask = o.pattern ↔ ¬ reservedFieldNonzero w)) ∧
  ∀ (s : State) (d : Descriptor) (rest : List HostEvent), s.Live → s.hostIn = .issue d :: rest →
    ¬ reservedOpcodeByte (d.word0.extractLsb' 0 8).toNat → reservedFieldNonzero d.word0 →
    step s = .next { s with
      hostIn := rest
      faulted := true
      faultCause := .reservedField
      resultsRev := ⟨0x00001A02#32, [], []⟩ :: s.resultsRev }

/-! ## Steps -/

/-- 10_state.md R21, R23: a step takes the host's next operation off the port and carries it out. -/
def Obligations.StepRunsTheDecodedOperation : Prop :=
  ∀ (s : State) (d : Descriptor) (rest : List HostEvent) (i : Instr), s.hostIn = .issue d :: rest →
    decode d = .ok i → step s = exec i { s with hostIn := rest }

/-- 10_state.md R21 and 70_reset_and_hazards.md R204: while the host issues nothing, the block waits and nothing changes. That a
step of the model is taken then at all is its own choice (log entry 9). -/
def Obligations.WaitingBlockChangesNothing : Prop :=
  ∀ s : State, s.hostIn = [] → step s = .next s

/-- 60_exceptions.md R178: a faulted block answers every operation with its fault, decoded or not, and changes nothing. -/
def Obligations.FaultedBlockAnswersItsFault : Prop :=
  ∀ s : State, s.faulted = true →
    (∀ i : Instr, exec i s =
      .next { s with resultsRev := ⟨resultWord .fault s.faultCause.code false, [], []⟩ :: s.resultsRev }) ∧
    ∀ (d : Descriptor) (rest : List HostEvent), s.hostIn = .issue d :: rest →
      step s = .next { s with
        hostIn := rest
        resultsRev := ⟨resultWord .fault s.faultCause.code false, [], []⟩ :: s.resultsRev }

/-- 60_exceptions.md R179, R180, 70_reset_and_hazards.md R203: a fault keeps its first cause, and only RESET clears it. -/
def Obligations.OnlyResetClearsAFault : Prop :=
  ∀ s t : State, step s = .next t → s.faulted = true →
    (t.faulted = true ∧ t.faultCause = s.faultCause) ∨
      (∃ rest, s.hostIn = .reset :: rest ∧ t.faulted = false ∧ t.faultCause = .none)

/-- 40_framer.md R119, R120, R121: the partial-refresh operations set refused and answer REFUSED, in every state the common
checks let through and whatever their operands are; and their encodings. -/
def Obligations.PartialRefreshIsRefused : Prop :=
  ∀ (s : State) (l t r b : Word) (p : List Byte), s.Live →
    let after : State := { s with refused := true, resultsRev := ⟨0x00000003#32, [], []⟩ :: s.resultsRev }
    exec (.startPartial l t r b) s = .next after ∧ exec (.drawPartialRow p) s = .next after ∧
      exec .endPartial s = .next after ∧
      encode (.startPartial l t r b) = ⟨0x00000005#32, [l, t, r, b], []⟩ ∧
      encode (.drawPartialRow p) = ⟨(BitVec.ofNat 32 p.length <<< 16) ||| 0x06#32, [], p⟩ ∧
      encode .endPartial = ⟨0x00000007#32, [], []⟩

/-- 60_exceptions.md R181: after a refusal the block takes no step on any operation, decoded or not; a refusal sets refused,
answers REFUSED and changes nothing else; and only the partial-refresh operations refuse. -/
def Obligations.RefusedBlockIsStuck : Prop :=
  (∀ s : State, s.faulted = false → s.refused = true →
    (∀ i : Instr, exec i s = .fault .stuckAfterRefusal) ∧
    ∀ (d : Descriptor) (rest : List HostEvent), s.hostIn = .issue d :: rest → step s = .fault .stuckAfterRefusal) ∧
  ∀ (i : Instr) (s t : State), exec i s = .next t → s.refused = false → t.refused = true →
    t = { s with refused := true, resultsRev := ⟨0x00000003#32, [], []⟩ :: s.resultsRev } ∧
      ((∃ l u r b, i = .startPartial l u r b) ∨ (∃ p, i = .drawPartialRow p) ∨ i = .endPartial)

/-- 60_exceptions.md R170, 30_encoding.md R78: every operation that completes gives exactly one result; its fields are the
block's, only INIT and START_FRAME answer NOT_READY, and only CLIP_INTERSECT and ROW_READ carry a payload. -/
def Obligations.EveryOperationGivesOneResult : Prop :=
  ∀ (i : Instr) (s t : State), exec i s = .next t →
    ∃ r : OpResult, t.resultsRev = r :: s.resultsRev ∧
      r.word.extractLsb' 2 6 = 0#6 ∧ r.word.extractLsb' 17 15 = 0#15 ∧
      (r.word.extractLsb' 0 2 = 2#2 ↔ t.faulted = true) ∧
      (t.faulted = true → r.word.extractLsb' 8 8 = t.faultCause.code) ∧
      (t.faulted = false → r.word.extractLsb' 8 8 = 0#8) ∧
      (t.faulted = false → (r.word.extractLsb' 0 2 = 3#2 ↔ t.refused = true)) ∧
      (r.word.extractLsb' 0 2 = 1#2 → i = .init ∨ i = .startFrame) ∧
      (r.word.getLsbD 16 = true → ∃ a b c d, i = .clipIntersect a b c d) ∧
      (r.words ≠ [] → ∃ a b c d, i = .clipIntersect a b c d) ∧
      (r.bytes ≠ [] → i = .rowRead)

/-- 60_exceptions.md R177, first case: a fault of an operation's own checks appends no event and changes nothing but the
fault and its result. -/
def Obligations.CheckFaultsArePrecise : Prop :=
  ∀ (i : Instr) (s t : State), s.Live → exec i s = .next t → t.faulted = true → t.faultCause ≠ .commFault →
    t = { s with
      faulted := true
      faultCause := t.faultCause
      resultsRev := ⟨resultWord .fault t.faultCause.code false, [], []⟩ :: s.resultsRev }

/-- 60_exceptions.md R177, second case, and R172: a COMM_FAULT leaves the failing byte as the newest event, every earlier
event of the operation stands, CS_OUT is deasserted, and the frame's state is as before. -/
def Obligations.CommFaultIsPreciseToTheByte : Prop :=
  ∀ (i : Instr) (s t : State), s.Live → exec i s = .next t → t.faulted = true → t.faultCause = .commFault →
    (∃ dc v es, t.traceRev = .byte dc v false :: (es ++ s.traceRev) ∧ es.all (fun e => !e.fails) = true ∧ t.dcOut = dc) ∧
      t.csOut = .deasserted ∧ t.frameOpen = s.frameOpen ∧ t.rowsSent = s.rowsSent ∧ t.rowBuf = s.rowBuf ∧
      (i ≠ .init → t.initState = s.initState) ∧
      (i = .init → s.initState.rank ≤ t.initState.rank ∧ (t.initState = .resetting2 ∨ t.initState = .resetting3))

/-! ## Bytes on the wire -/

/-- 40_framer.md R105 to R108: what each primitive changes, and the one event it appends. -/
def Obligations.PrimitivesAppendTheirEvents : Prop :=
  ∀ s : State,
    sampleBusy s = { s with busyIn := s.busyIn.tail, traceRev := .busy s.busyLevel :: s.traceRev } ∧
    (∀ ms : Nat, timerStart ms s =
      { s with timerRunning := true, timerPeriodMs := ms, traceRev := .timerStart ms :: s.traceRev }) ∧
    (s.timerExpired = true → timerPoll s =
      { s with timerRunning := false, timerIn := s.timerIn.tail, traceRev := .timerPoll true :: s.traceRev }) ∧
    (s.timerExpired = false → timerPoll s =
      { s with timerIn := s.timerIn.tail, traceRev := .timerPoll false :: s.traceRev }) ∧
    (∀ ms : Nat, delay ms s = { s with traceRev := .delay ms :: s.traceRev }) ∧
    ∀ l : Level, rstWrite l s = { s with rstOut := l, traceRev := .rst l :: s.traceRev }

/-- 10_state.md R40, 93_implementation_defined.md X14: after a TimerStart, polling again and again finds the timer expired
(second clause), and any answers whatever may come first (third clause). The first clause, that the answers are fair in every
state with no TimerStart before, and the last, that timers given by their waits answer exactly the fair sequences, are the
model's choice of form (DESIGN CHOICE, log entry 8). -/
def Obligations.TimerAnswersAreFreeAndFair : Prop :=
  (∀ s : State, s.TimerFair) ∧
  (∀ (s : State) (ms : Nat), ∃ n : Nat, (pollTimes n (timerStart ms s)).timerExpired = true) ∧
  (∀ (s : State) (answers : List Bool) (k : Nat) (a : Bool), answers[k]? = some a →
    (pollTimes k { s with timerIn := { s.timerIn with given := answers } }).timerExpired = a) ∧
  ∀ f : Nat → Bool, FairExpiry f ↔ ∃ wait : Nat → Nat, ∀ n : Nat, Config.expiryOf wait n = f n

/-- 40_framer.md R100 to R102, R104: a sequence of bytes goes out one exchange a byte, in order, each with its DC level, and
stops at the first failing exchange: that byte's event stands, the fault is raised, no later byte is sent. -/
def Obligations.ByteSequenceStopsAtTheFirstFailure : Prop :=
  ∀ (bs : List WireByte) (s : State), s.faulted = false → bs ≠ [] →
    (s.busOkFor bs.length = true →
      sendAll bs s = { s with
        dcOut := (bs.getLast?.map Prod.fst).getD s.dcOut
        csOut := .deasserted
        busIn := s.busIn.drop bs.length
        traceRev := (bs.map (fun b => Event.byte b.1 b.2 true)).reverse ++ s.traceRev }) ∧
    ∀ (k : Nat) (b : WireByte), bs[k]? = some b → s.busOkFor k = true → s.busOk k = false →
      sendAll bs s = { s with
        dcOut := b.1
        csOut := .deasserted
        busIn := s.busIn.drop (k + 1)
        traceRev := .byte b.1 b.2 false :: (((bs.take k).map (fun b => Event.byte b.1 b.2 true)).reverse ++ s.traceRev)
        faulted := true
        faultCause := .commFault
        resultsRev := ⟨0x00000102#32, [], []⟩ :: s.resultsRev }

/-- 40_framer.md R103: replacing every received byte by another changes no outcome of any operation in any other way. -/
def Obligations.ReceivedBytesAreDiscarded : Prop :=
  ∀ (i : Instr) (s : State), exec i s.eraseRx = mapNext State.eraseRx (exec i s)

/-! ## INIT -/

/-- 40_framer.md R110: the transition out of UNINIT, inside an INIT with `n + 1` transitions left. -/
def Obligations.InitLeavesUninit : Prop :=
  ∀ (n : Nat) (s : State), s.initState = .uninit →
    (s.busyLevel = 0#1 →
      initLoop (n + 1) s = { s with busyIn := s.busyIn.tail, traceRev := .busy 0#1 :: s.traceRev }) ∧
    (s.busyLevel = 1#1 →
      initLoop (n + 1) s = initLoop n { s with
        initState := .resetting1
        rstOut := 0#1
        timerRunning := true
        timerPeriodMs := 100
        busyIn := s.busyIn.tail
        traceRev := .timerStart 100 :: .rst 0#1 :: .busy 1#1 :: s.traceRev })

/-- 40_framer.md R111: the transition out of RESETTING1. -/
def Obligations.InitLeavesResetting1 : Prop :=
  ∀ (n : Nat) (s : State), s.initState = .resetting1 →
    (s.timerExpired = false →
      initLoop (n + 1) s = { s with timerIn := s.timerIn.tail, traceRev := .timerPoll false :: s.traceRev }) ∧
    (s.timerExpired = true →
      initLoop (n + 1) s = initLoop n { s with
        initState := .resetting2
        rstOut := 1#1
        timerRunning := true
        timerPeriodMs := 100
        timerIn := s.timerIn.tail
        traceRev := .timerStart 100 :: .rst 1#1 :: .timerPoll true :: s.traceRev })

/-- 40_framer.md R112: the transition out of RESETTING2 sends exactly five bytes. -/
def Obligations.InitLeavesResetting2 : Prop :=
  ∀ (n : Nat) (s : State), s.faulted = false → s.initState = .resetting2 →
    (s.timerExpired = false →
      initLoop (n + 1) s = { s with timerIn := s.timerIn.tail, traceRev := .timerPoll false :: s.traceRev }) ∧
    (s.timerExpired = true → s.busOkFor 5 = true →
      initLoop (n + 1) s = initLoop n { s with
        initState := .resetting3
        timerRunning := false
        timerIn := s.timerIn.tail
        dcOut := 0#1
        csOut := .deasserted
        busIn := s.busIn.drop 5
        traceRev := .byte 0#1 s.config.opPowerOn true :: .byte 1#1 s.config.boosterP2 true ::
          .byte 1#1 s.config.boosterP1 true :: .byte 1#1 s.config.boosterP0 true ::
          .byte 0#1 s.config.opBoosterSoftStart true :: .timerPoll true :: s.traceRev })

/-- 40_framer.md R113: the transition out of RESETTING3 sends exactly two bytes, with no delay before its busy sample. -/
def Obligations.InitLeavesResetting3 : Prop :=
  ∀ (n : Nat) (s : State), s.faulted = false → s.initState = .resetting3 →
    (s.busyLevel = 0#1 →
      initLoop (n + 1) s = { s with busyIn := s.busyIn.tail, traceRev := .busy 0#1 :: s.traceRev }) ∧
    (s.busyLevel = 1#1 → s.busOkFor 2 = true →
      initLoop (n + 1) s = { s with
        initState := .initialized
        busyIn := s.busyIn.tail
        dcOut := 1#1
        csOut := .deasserted
        busIn := s.busIn.drop 2
        traceRev := .byte 1#1 s.config.panelSettingP0 true :: .byte 0#1 s.config.opPanelSetting true ::
          .busy 1#1 :: s.traceRev })

/-- 40_framer.md R114, and the end of R109's pseudocode: INIT in INITIALIZED changes nothing and answers READY; in any other
state it runs its loop and answers READY or NOT_READY by where the loop ended, or its fault. -/
def Obligations.InitAnswersByItsState : Prop :=
  ∀ s : State, s.Live →
    (s.initState = .initialized →
      exec .init s = .next { s with resultsRev := ⟨0x00000000#32, [], []⟩ :: s.resultsRev }) ∧
    ∀ u : State, initLoop s.config.initMaxTransitions s = u → s.initState ≠ .initialized →
      (u.faulted = true → exec .init s = .next u) ∧
      (u.faulted = false → u.initState = .initialized →
        exec .init s = .next { u with resultsRev := ⟨0x00000000#32, [], []⟩ :: s.resultsRev }) ∧
      (u.faulted = false → u.initState ≠ .initialized →
        exec .init s = .next { u with resultsRev := ⟨0x00000001#32, [], []⟩ :: s.resultsRev })

/-- 40_framer.md R109 and 95_test_vectors.md P1: with every input favourable, one INIT from UNINIT makes the four transitions
and answers READY, and the trace gains exactly P1's fifteen events. -/
def Obligations.InitFallsThroughToReady : Prop :=
  ∀ s : State, s.Live → s.initState = .uninit → 4 ≤ s.config.initMaxTransitions →
    s.busyIn.nth Config.freeBusy 0 = 1#1 → s.busyIn.nth Config.freeBusy 1 = 1#1 →
    s.timerIn.nth Config.freeExpiry 0 = true → s.timerIn.nth Config.freeExpiry 1 = true → s.busOkFor 7 = true →
    exec .init s = .next { s with
      initState := .initialized
      rstOut := 1#1
      csOut := .deasserted
      dcOut := 1#1
      timerRunning := false
      timerPeriodMs := 100
      busyIn := s.busyIn.drop 2
      timerIn := s.timerIn.drop 2
      busIn := s.busIn.drop 7
      resultsRev := ⟨0x00000000#32, [], []⟩ :: s.resultsRev
      traceRev := [Event.busy 1#1, .rst 0#1, .timerStart 100, .timerPoll true, .rst 1#1, .timerStart 100, .timerPoll true,
        .byte 0#1 s.config.opBoosterSoftStart true, .byte 1#1 s.config.boosterP0 true, .byte 1#1 s.config.boosterP1 true,
        .byte 1#1 s.config.boosterP2 true, .byte 0#1 s.config.opPowerOn true, .busy 1#1,
        .byte 0#1 s.config.opPanelSetting true, .byte 1#1 s.config.panelSettingP0 true].reverse ++ s.traceRev }

/-- 40_framer.md R109 (exceptions) and R112, R113: a failed exchange in a transition leaves init_state as before it. -/
def Obligations.InitCommFaultKeepsTheState : Prop :=
  ∀ (n k : Nat) (s : State), s.faulted = false → s.busOkFor k = true → s.busOk k = false →
    (s.initState = .resetting2 → s.timerExpired = true → k < 5 →
      let u := initLoop (n + 1) s
      u.faulted = true ∧ u.faultCause = .commFault ∧ u.initState = .resetting2 ∧
        u.trace = s.trace ++ .timerPoll true ::
          ((boosterSequence s.config).take k).map (fun b => Event.byte b.1 b.2 true) ++
          ((boosterSequence s.config)[k]?.map (fun b => Event.byte b.1 b.2 false)).toList) ∧
    (s.initState = .resetting3 → s.busyLevel = 1#1 → k < 2 →
      let u := initLoop (n + 1) s
      u.faulted = true ∧ u.faultCause = .commFault ∧ u.initState = .resetting3 ∧
        u.trace = s.trace ++ .busy 1#1 ::
          ((panelSequence s.config).take k).map (fun b => Event.byte b.1 b.2 true) ++
          ((panelSequence s.config)[k]?.map (fun b => Event.byte b.1 b.2 false)).toList)

/-- 10_state.md R25: init_state moves only forward, one place per transition; no operation but INIT writes it, and only the
block reset brings it back. -/
def Obligations.InitStateOnlyMovesForward : Prop :=
  (∀ (i : Instr) (s t : State), exec i s = .next t →
    s.initState.rank ≤ t.initState.rank ∧ (i ≠ .init → t.initState = s.initState)) ∧
  (∀ s : State, (initLoop 1 s).initState.rank = s.initState.rank ∨
    (initLoop 1 s).initState.rank = s.initState.rank + 1) ∧
  ∀ s t : State, step s = .next t → t.initState.rank < s.initState.rank →
    ∃ rest, s.hostIn = .reset :: rest ∧ t.initState = .uninit

/-- 70_reset_and_hazards.md R218: the work of one INIT is bounded: at most 4 samples or polls and 7 bytes. -/
def Obligations.InitWorkIsBounded : Prop :=
  ∀ s t : State, exec .init s = .next t →
    ∃ es : List Event, t.traceRev = es ++ s.traceRev ∧ (es.filter Event.isDraw).length ≤ 4 ∧
      (es.filterMap Event.wireByte).length ≤ 7

/-- 40_framer.md R115, 95_test_vectors.md W4, 30_encoding.md R86 (INIT_WAIT): from any initialisation state and for any number
of transitions per INIT, with a timer that is always expired, a bus that does not fail and a busy input that is idle at
least at every other sample, at most six INITs reach INITIALIZED and READY. A timer expired at the first poll is the case
R40 takes from the source's property; the statement after this one is about every timer. -/
def Obligations.InitWaitReachesReady : Prop :=
  ∀ s : State, s.Live → 1 ≤ s.config.initMaxTransitions →
    (∀ k < 3, s.busyIn.nth Config.freeBusy k = 1#1 ∨ s.busyIn.nth Config.freeBusy (k + 1) = 1#1) →
    (∀ k < 2, s.timerIn.nth Config.freeExpiry k = true) → s.busOkFor 7 = true →
    ∃ t : State, initWait 6 s = .next t ∧ t.Live ∧ t.initState = .initialized ∧
      t.lastResult = some ⟨0x00000000#32, [], []⟩

/-- 10_state.md R40, 70_reset_and_hazards.md R218, 30_encoding.md R86 (INIT_WAIT): with no premise on the timer, since it is
fair, INIT issued again and again reaches INITIALIZED and READY from any initialisation state and for any number of
transitions per INIT. Of the busy input, which is not fair (R39), and of the bus it takes what the statement before takes. From a state already in
RESETTING1 or RESETTING2 it rests on the model's form of the fairness (DESIGN CHOICE, log entry 8). -/
def Obligations.InitWaitEndsBecauseTheTimerIsFair : Prop :=
  ∀ s : State, s.Live → 1 ≤ s.config.initMaxTransitions →
    (∀ k < 3, s.busyIn.nth Config.freeBusy k = 1#1 ∨ s.busyIn.nth Config.freeBusy (k + 1) = 1#1) →
    s.busOkFor 7 = true →
    ∃ (n : Nat) (t : State), initWait n s = .next t ∧ t.Live ∧ t.initState = .initialized ∧
      t.lastResult = some ⟨0x00000000#32, [], []⟩

/-! ## Frames -/

/-- 40_framer.md R116: START_FRAME, all of its outcomes, the checks in their order; and its encoding. -/
def Obligations.StartFrameIsGatedByBusy : Prop :=
  encode .startFrame = ⟨0x00000002#32, [], []⟩ ∧ ∀ s : State, s.Live → exec .startFrame s = .next (
    if s.initState ≠ .initialized then
      { s with faulted := true, faultCause := .notInitialized, resultsRev := ⟨0x00001202#32, [], []⟩ :: s.resultsRev }
    else if s.frameOpen = true then
      { s with faulted := true, faultCause := .frameOpen, resultsRev := ⟨0x00001302#32, [], []⟩ :: s.resultsRev }
    else if s.busyLevel = 0#1 then
      { s with
        busyIn := s.busyIn.tail
        traceRev := .busy 0#1 :: s.traceRev
        resultsRev := ⟨0x00000001#32, [], []⟩ :: s.resultsRev }
    else if s.busOk 0 = false then
      { s with
        busyIn := s.busyIn.tail
        dcOut := 0#1
        csOut := .deasserted
        busIn := s.busIn.tail
        traceRev := .byte 0#1 s.config.opDtm1 false :: .busy 1#1 :: s.traceRev
        faulted := true
        faultCause := .commFault
        resultsRev := ⟨0x00000102#32, [], []⟩ :: s.resultsRev }
    else
      { s with
        busyIn := s.busyIn.tail
        dcOut := 0#1
        csOut := .deasserted
        busIn := s.busIn.tail
        traceRev := .delay 2 :: .byte 0#1 s.config.opDtm1 true :: .busy 1#1 :: s.traceRev
        frameOpen := true
        rowsSent := 0
        resultsRev := ⟨0x00000000#32, [], []⟩ :: s.resultsRev })

/-- 40_framer.md R117, 20_memory.md R54: DRAW_ROW, all of its outcomes: the checks in their order, the whole row verbatim and
in index order, or the bytes up to the first that fails; and its encoding. -/
def Obligations.DrawRowSendsTheRowVerbatim : Prop :=
  (∀ p : List Byte, encode (.drawRow p) = ⟨(BitVec.ofNat 32 p.length <<< 16) ||| 0x03#32, [], p⟩) ∧
  ∀ (s : State) (p : List Byte), s.Live → s.config.Wf →
    (s.frameOpen = false → exec (.drawRow p) s = .next
      { s with faulted := true, faultCause := .noFrame, resultsRev := ⟨0x00001402#32, [], []⟩ :: s.resultsRev }) ∧
    (s.frameOpen = true → s.rowsSent = s.config.height → exec (.drawRow p) s = .next
      { s with faulted := true, faultCause := .rowOverflow, resultsRev := ⟨0x00001502#32, [], []⟩ :: s.resultsRev }) ∧
    (s.frameOpen = true → s.rowsSent ≠ s.config.height → p.length < s.config.rowBytes → exec (.drawRow p) s = .next
      { s with faulted := true, faultCause := .shortRow, resultsRev := ⟨0x00001002#32, [], []⟩ :: s.resultsRev }) ∧
    (s.frameOpen = true → s.rowsSent ≠ s.config.height → s.config.rowBytes < p.length → exec (.drawRow p) s = .next
      { s with faulted := true, faultCause := .longRow, resultsRev := ⟨0x00001102#32, [], []⟩ :: s.resultsRev }) ∧
    (s.frameOpen = true → s.rowsSent ≠ s.config.height → p.length = s.config.rowBytes →
      s.busOkFor s.config.rowBytes = true → exec (.drawRow p) s = .next { s with
        rowsSent := s.rowsSent + 1
        dcOut := 1#1
        csOut := .deasserted
        busIn := s.busIn.drop s.config.rowBytes
        traceRev := (p.map (fun b => Event.byte 1#1 b true)).reverse ++ s.traceRev
        resultsRev := ⟨0x00000000#32, [], []⟩ :: s.resultsRev }) ∧
    ∀ (k : Nat) (b : Byte), s.frameOpen = true → s.rowsSent ≠ s.config.height → p.length = s.config.rowBytes →
      p[k]? = some b → s.busOkFor k = true → s.busOk k = false → exec (.drawRow p) s = .next { s with
        dcOut := 1#1
        csOut := .deasserted
        busIn := s.busIn.drop (k + 1)
        traceRev := .byte 1#1 b false :: (((p.take k).map (fun b => Event.byte 1#1 b true)).reverse ++ s.traceRev)
        faulted := true
        faultCause := .commFault
        resultsRev := ⟨0x00000102#32, [], []⟩ :: s.resultsRev }

/-- 40_framer.md R118: END_FRAME, all of its outcomes: the checks in their order, the secondary plane whatever the primary
plane was, the refresh and the grace period, or the bytes up to the first that fails with the frame still open; and its
encoding. -/
def Obligations.EndFrameSendsTheSecondaryPlane : Prop :=
  encode .endFrame = ⟨0x00000004#32, [], []⟩ ∧ ∀ s : State, s.Live →
    (s.frameOpen = false → exec .endFrame s = .next
      { s with faulted := true, faultCause := .noFrame, resultsRev := ⟨0x00001402#32, [], []⟩ :: s.resultsRev }) ∧
    (s.frameOpen = true → s.rowsSent ≠ s.config.height → exec .endFrame s = .next
      { s with faulted := true, faultCause := .frameIncomplete, resultsRev := ⟨0x00001602#32, [], []⟩ :: s.resultsRev }) ∧
    (s.frameOpen = true → s.rowsSent = s.config.height → s.busOkFor (s.config.planeBytes + 2) = true →
      exec .endFrame s = .next { s with
        frameOpen := false
        rowsSent := 0
        dcOut := 0#1
        csOut := .deasserted
        busIn := s.busIn.drop (s.config.planeBytes + 2)
        traceRev := .delay 10 :: .byte 0#1 s.config.opDisplayRefresh true ::
          (List.replicate s.config.planeBytes (Event.byte 1#1 0xFF#8 true) ++
            .byte 0#1 s.config.opDtm2 true :: s.traceRev)
        resultsRev := ⟨0x00000000#32, [], []⟩ :: s.resultsRev }) ∧
    ∀ k : Nat, s.frameOpen = true → s.rowsSent = s.config.height → k < s.config.planeBytes + 2 →
      s.busOkFor k = true → s.busOk k = false →
      ∃ t : State, exec .endFrame s = .next t ∧ t.faulted = true ∧ t.faultCause = .commFault ∧ t.frameOpen = true ∧
        t.rowsSent = s.rowsSent ∧
        t.trace = s.trace ++ ((frameEndSequence s.config).take k).map (fun b => Event.byte b.1 b.2 true) ++
          ((frameEndSequence s.config)[k]?.map (fun b => Event.byte b.1 b.2 false)).toList

/-- 40_framer.md R122, 30_encoding.md R86 (SEND_FRAME): a complete frame puts exactly the frame-start command, the rows, the
plane-2 command, the secondary plane and the refresh command on the wire, with one 2 ms and one 10 ms delay; on the 400 by 300
panel that is 30003 bytes. -/
def Obligations.CompleteFrameOnTheWire : Prop :=
  ∀ (s : State) (rows : List (List Byte)), s.Live → s.initState = .initialized → s.frameOpen = false →
    s.busyLevel = 1#1 → rows.length = s.config.height → (∀ p ∈ rows, p.length = s.config.rowBytes) →
    s.busOkFor (s.config.rowBytes * s.config.height + s.config.planeBytes + 3) = true →
    ∃ t : State, runAll (.startFrame :: frameOps rows) s = .next t ∧ t.Live ∧ t.frameOpen = false ∧ t.rowsSent = 0 ∧
      t.trace = s.trace ++ [.busy 1#1, .byte 0#1 s.config.opDtm1 true, .delay 2] ++
        rows.flatten.map (fun b => Event.byte 1#1 b true) ++ [.byte 0#1 s.config.opDtm2 true] ++
        List.replicate s.config.planeBytes (Event.byte 1#1 0xFF#8 true) ++
        [.byte 0#1 s.config.opDisplayRefresh true, .delay 10] ∧
      t.wire.length = s.wire.length + (s.config.rowBytes * s.config.height + s.config.planeBytes + 3) ∧
      (s.config.width = 400 → s.config.height = 300 →
        s.config.rowBytes * s.config.height + s.config.planeBytes + 3 = 30003)

/-- 30_encoding.md R86, 95_test_vectors.md P3: SEND_ROW sends the row buffer's bytes, byte 0 first, as one row of the frame. -/
def Obligations.SendRowSendsTheRowBuffer : Prop :=
  ∀ s : State, s.Live → s.config.Wf → s.RowForm → s.config.fillBytes = s.config.rowBytes → s.frameOpen = true →
    s.rowsSent ≠ s.config.height → s.busOkFor s.config.rowBytes = true →
    ∃ t : State, sendRow s = .next t ∧ t.Live ∧ t.rowsSent = s.rowsSent + 1 ∧ t.rowBuf = s.rowBuf ∧
      t.trace = s.trace ++ s.rowBuf.map (fun b => Event.byte 1#1 b true)

/-! ## Bit-packer -/

/-- 41_bitpacker.md R144: a column mask's set bits are exactly its columns' bits, and the closed forms give it. -/
def Obligations.ColumnMaskHasItsColumns : Prop :=
  ∀ a z : Nat, a ≤ z → a / 8 = z / 8 →
    (∀ (o : BitOrder) (i : Nat), i < 8 →
      ((colmask o a z).getLsbD i = true ↔ ∃ c, a ≤ c ∧ c ≤ z ∧ bitpos o c = i)) ∧
    colmask .msbFirst a z = (0xFF#8 >>> (a % 8)) &&& (0xFF#8 <<< (7 - z % 8)) ∧
    colmask .lsbFirst a z = (0xFF#8 <<< (a % 8)) &&& (0xFF#8 >>> (7 - z % 8))

/-- 41_bitpacker.md R141, R142: CLIP_INTERSECT answers READY with the larger left bound, the smaller right bound and EMPTY,
and changes nothing else; its encoding; the operation is commutative and intersection is associative. -/
def Obligations.ClipIntersectAnswersTheIntersection : Prop :=
  (∀ (s : State) (aLeft aRight bLeft bRight : Word), s.Live →
    encode (.clipIntersect aLeft aRight bLeft bRight) = ⟨0x00000011#32, [aLeft, aRight, bLeft, bRight], []⟩ ∧
    exec (.clipIntersect aLeft aRight bLeft bRight) s = exec (.clipIntersect bLeft bRight aLeft aRight) s ∧
    ∃ l r : Word, l.toInt = max aLeft.toInt bLeft.toInt ∧ r.toInt = min aRight.toInt bRight.toInt ∧
      exec (.clipIntersect aLeft aRight bLeft bRight) s = .next { s with
        resultsRev := ⟨if r.toInt ≤ l.toInt then 0x00010000#32 else 0x00000000#32, [l, r], []⟩ :: s.resultsRev }) ∧
  ∀ a b c : Interval, (a.intersect b).intersect c = a.intersect (b.intersect c)

/-- 41_bitpacker.md R143: an intersection is empty iff the two column sets share no column; an empty interval gives an empty
intersection. -/
def Obligations.IntersectionIsEmptyIffDisjoint : Prop :=
  ∀ a b : Interval,
    ((a.intersect b).empty = true ↔ ¬ ∃ c : Int, a.mem c = true ∧ b.mem c = true) ∧
    (a.empty = true ∨ b.empty = true → (a.intersect b).empty = true)

/-- 41_bitpacker.md R145, R146: FILL, all of its outcomes: an empty span is a no-op without a range check, a span outside the
buffer faults with no byte changed, and otherwise every byte k has the bits of M_k set to the colour's bit and its other bits
kept; and its encodings. -/
def Obligations.FillSetsExactlyItsMasks : Prop :=
  (∀ cl cr l r : Word, encode (.fill .white cl cr l r) = ⟨0x00000110#32, [cl, cr, l, r], []⟩ ∧
    encode (.fill .black cl cr l r) = ⟨0x00000010#32, [cl, cr, l, r], []⟩) ∧
  ∀ (s : State) (col : Color) (cl cr l r : Word), s.Live → s.RowForm →
    let e := Interval.intersect ⟨cl, cr⟩ ⟨l, r⟩
    (e.empty = true →
      exec (.fill col cl cr l r) s = .next { s with resultsRev := ⟨0x00000000#32, [], []⟩ :: s.resultsRev }) ∧
    (e.empty = false → ¬ s.SpanFits e → exec (.fill col cl cr l r) s = .next
      { s with faulted := true, faultCause := .fillRange, resultsRev := ⟨0x00001702#32, [], []⟩ :: s.resultsRev }) ∧
    (e.empty = false → s.SpanFits e → ∃ m : Memory,
      exec (.fill col cl cr l r) s =
        .next { s with rowBuf := m, resultsRev := ⟨0x00000000#32, [], []⟩ :: s.resultsRev } ∧
      m.length = s.rowBuf.length ∧
      ∀ k : Nat, m.read k =
        let mask := spanMask s.config.bitOrder e.left.toInt.toNat e.right.toInt.toNat k
        (s.rowBuf.read k &&& ~~~mask) ||| (if cbit s.config.whiteBit col = 1#1 then mask else 0#8))

/-- 41_bitpacker.md R147, 20_memory.md R51: a FILL changes only pixels whose column lies in the clip and in the span; where the
span so clipped fits the buffer, those have the colour's bit afterwards. Every byte outside the span's bytes stays as it
was. -/
def Obligations.FillColoursExactlyItsColumns : Prop :=
  ∀ (s : State) (col : Color) (cl cr l r : Word), s.Live → s.RowForm →
    let e := Interval.intersect ⟨cl, cr⟩ ⟨l, r⟩
    ∃ t : State, exec (.fill col cl cr l r) s = .next t ∧
      (∀ c : Nat, c < s.config.columns → ¬ (Interval.mem ⟨cl, cr⟩ c = true ∧ Interval.mem ⟨l, r⟩ c = true) →
        t.rowBuf.pixel s.config.bitOrder c = s.rowBuf.pixel s.config.bitOrder c) ∧
      (s.SpanFits e → ∀ c : Nat, Interval.mem ⟨cl, cr⟩ c = true → Interval.mem ⟨l, r⟩ c = true →
        t.rowBuf.pixel s.config.bitOrder c = (cbit s.config.whiteBit col == 1#1)) ∧
      ∀ k : Nat, e.empty = true ∨ k < e.left.toInt.toNat / 8 ∨ (e.right.toInt.toNat - 1) / 8 < k →
        t.rowBuf.read k = s.rowBuf.read k

/-- 41_bitpacker.md R148: a FILL twice leaves the row buffer as once; two FILLs of one colour, neither of which faults, commute;
where two such FILLs overlap, the later one wins. -/
def Obligations.FillIsIdempotentAndCommutes : Prop :=
  ∀ (s : State) (col col' : Color) (cl cr l r cl' cr' l' r' : Word), s.Live → s.RowForm →
    let e := Interval.intersect ⟨cl, cr⟩ ⟨l, r⟩
    let e' := Interval.intersect ⟨cl', cr'⟩ ⟨l', r'⟩
    (∃ once twice : State, runAll [.fill col cl cr l r] s = .next once ∧
      runAll [.fill col cl cr l r, .fill col cl cr l r] s = .next twice ∧ twice.rowBuf = once.rowBuf) ∧
    (e.empty = true ∨ s.SpanFits e → e'.empty = true ∨ s.SpanFits e' →
      ∃ ab ba later : State,
        runAll [.fill col cl cr l r, .fill col cl' cr' l' r'] s = .next ab ∧
        runAll [.fill col cl' cr' l' r', .fill col cl cr l r] s = .next ba ∧ ab.rowBuf = ba.rowBuf ∧
        runAll [.fill col cl cr l r, .fill col' cl' cr' l' r'] s = .next later ∧
        ∀ c : Nat, Interval.mem e c = true → Interval.mem e' c = true →
          later.rowBuf.pixel s.config.bitOrder c = (cbit s.config.whiteBit col' == 1#1))

/-- 30_encoding.md R86: ROW_CLEAR sets every byte of the row buffer to the colour's byte. -/
def Obligations.RowClearClearsTheRow : Prop :=
  ∀ (s : State) (col : Color), s.Live → s.RowForm → s.config.Wf → s.config.columns < 2 ^ 31 →
    exec (rowClear s.config col) s = .next { s with
      rowBuf := List.replicate s.config.fillBytes (if cbit s.config.whiteBit col = 1#1 then 0xFF#8 else 0x00#8)
      resultsRev := ⟨0x00000000#32, [], []⟩ :: s.resultsRev }

/-- 41_bitpacker.md R149: ROW_LOAD writes the whole row buffer, or faults on another length with no byte written; and its
encoding. -/
def Obligations.RowLoadWritesTheWholeRow : Prop :=
  (∀ p : List Byte, encode (.rowLoad p) = ⟨(BitVec.ofNat 32 p.length <<< 16) ||| 0x12#32, [], p⟩) ∧
  ∀ (s : State) (p : List Byte), s.Live →
    (p.length = s.config.fillBytes → exec (.rowLoad p) s = .next
      { s with rowBuf := p, resultsRev := ⟨0x00000000#32, [], []⟩ :: s.resultsRev }) ∧
    (p.length ≠ s.config.fillBytes → exec (.rowLoad p) s = .next
      { s with faulted := true, faultCause := .rowLoadLength, resultsRev := ⟨0x00001802#32, [], []⟩ :: s.resultsRev })

/-- 41_bitpacker.md R150: ROW_READ answers READY with the row buffer's bytes, whatever they are, and changes nothing else; and
its encoding. -/
def Obligations.RowReadAnswersTheRow : Prop :=
  encode .rowRead = ⟨0x00000013#32, [], []⟩ ∧ ∀ s : State, s.Live → exec .rowRead s =
    .next { s with resultsRev := ⟨0x00000000#32, [], s.rowBuf⟩ :: s.resultsRev }

/-! ## Frames: what an operation leaves alone -/

/-- 20_memory.md R58, 60_exceptions.md R186, 40_framer.md R109, R116 to R118 (state written): what a framer operation leaves
alone. Its memory frame: it stores to no byte of the row buffer. -/
def Obligations.FramerLeavesTheRestAlone : Prop :=
  ∀ (i : Instr) (s t : State), exec i s = .next t →
    (i = .init ∨ i = .startFrame ∨ (∃ p, i = .drawRow p) ∨ i = .endFrame) →
    t.config = s.config ∧ t.refused = s.refused ∧ t.hostIn = s.hostIn ∧ t.resets = s.resets ∧
      t.rowBuf.length = s.rowBuf.length ∧ (∀ k, t.rowBuf.read k = s.rowBuf.read k) ∧
      (∃ es, t.traceRev = es ++ s.traceRev) ∧
      (i = .init → t.frameOpen = s.frameOpen ∧ t.rowsSent = s.rowsSent) ∧
      (i ≠ .init → t.initState = s.initState ∧ t.rstOut = s.rstOut ∧ t.timerRunning = s.timerRunning ∧
        t.timerPeriodMs = s.timerPeriodMs ∧ t.timerIn = s.timerIn) ∧
      (i ≠ .init → i ≠ .startFrame → t.busyIn = s.busyIn) ∧
      (∀ p, i = .drawRow p → t.frameOpen = s.frameOpen) ∧
      (s.faulted = true → t.faultCause = s.faultCause ∧ t.faulted = true) ∧
      (t.faulted = false → t.faultCause = s.faultCause)

/-- 20_memory.md R58, R60, 41_bitpacker.md R142, R145, R147, R149, R150 (state written): what a bit-packer operation leaves
alone. FILL stores only to the bytes of its effective span, computed as its meaning computes them. -/
def Obligations.BitPackerLeavesTheRestAlone : Prop :=
  ∀ (i : Instr) (s t : State), exec i s = .next t →
    ((∃ c cl cr l r, i = .fill c cl cr l r) ∨ (∃ a b c d, i = .clipIntersect a b c d) ∨ (∃ p, i = .rowLoad p) ∨ i = .rowRead) →
    t = { s with
      rowBuf := t.rowBuf, faulted := t.faulted, faultCause := t.faultCause, resultsRev := t.resultsRev } ∧
    ((¬ ∃ p, i = .rowLoad p) → t.rowBuf.length = s.rowBuf.length) ∧
    (∀ p, i = .rowLoad p → t.rowBuf = s.rowBuf ∨ (t.rowBuf = p ∧ p.length = s.config.fillBytes)) ∧
    ((∃ a b c d, i = .clipIntersect a b c d) ∨ i = .rowRead →
      t.faulted = s.faulted ∧ t.faultCause = s.faultCause ∧ ∀ k, t.rowBuf.read k = s.rowBuf.read k) ∧
    (t.faulted = true → ∀ k, t.rowBuf.read k = s.rowBuf.read k) ∧
    (t.faulted = false → t.faultCause = s.faultCause) ∧
    ∀ c cl cr l r, i = .fill c cl cr l r →
      let e := Interval.intersect ⟨cl, cr⟩ ⟨l, r⟩
      ∀ k : Nat, e.empty = true ∨ k < e.left.toInt.toNat / 8 ∨ (e.right.toInt.toNat - 1) / 8 < k →
        t.rowBuf.read k = s.rowBuf.read k

/-- 10_state.md R38: no step writes the configuration. -/
def Obligations.NoStepWritesTheConfiguration : Prop :=
  ∀ s t : State, step s = .next t → t.config = s.config

/-! ## Reset -/

/-- 70_reset_and_hazards.md R201: every element the spec gives a reset value has it right after reset, in every configuration,
and the configuration is not reset. DC_OUT, timer_period_ms and the row buffer's content have no value there (log entries 3
to 5): nothing is said of them but that the buffer has its length. State.reset is one such state. -/
def Obligations.ResetValues : Prop :=
  (∀ (c : Config) (n : Nat) (host : List HostEvent) (busy : Tape Level) (timer : Tape Bool) (bus : Tape BusAnswer),
    let s := State.resetWith c n host busy timer bus
    s.initState.code = 0#3 ∧ s.frameOpen = false ∧ s.rowsSent = 0 ∧ s.faulted = false ∧ s.faultCause.code = 0x00#8 ∧
      s.refused = false ∧ s.rstOut = 1#1 ∧ s.csOut = .deasserted ∧ s.timerRunning = false ∧ s.trace = [] ∧
      s.rowBuf.length = c.fillBytes ∧ s.config = c) ∧
  State.reset = State.resetWith Config.default 0 [] ⟨[], 0⟩ ⟨[], 0⟩ ⟨[], 0⟩

/-- 70_reset_and_hazards.md R200, R201, R202: RESET gives every element its reset value whatever the state was, a faulted or a
refused one too; it appends no event, and it leaves the parameters, the host's later actions and the environment's answers.
That RESET also ends a refusal is DEDUCED from R200 and R201 (log entry 14). -/
def Obligations.BlockResetResetsEverything : Prop :=
  ∀ (s : State) (rest : List HostEvent), s.hostIn = .reset :: rest →
    ∃ t : State, step s = .next t ∧ t.initState = .uninit ∧ t.frameOpen = false ∧ t.rowsSent = 0 ∧ t.faulted = false ∧
      t.faultCause = .none ∧ t.refused = false ∧ t.rstOut = 1#1 ∧ t.csOut = .deasserted ∧ t.timerRunning = false ∧
      t.trace = [] ∧ t.rowBuf.length = s.config.fillBytes ∧ t.config = s.config ∧ t.hostIn = rest ∧
      t.busyIn = s.busyIn ∧ t.timerIn = s.timerIn ∧ t.busIn = s.busIn

/-! ## Invariants of every step -/

/-- 10_state.md R34, 20_memory.md R50: the row buffer keeps its form. -/
def Obligations.StepKeepsTheRowForm : Prop :=
  ∀ s t : State, s.RowForm → step s = .next t → t.RowForm

/-- 10_state.md R26, R27: rows_sent stays within 0..HEIGHT and is 0 outside a frame, and a frame is open only after
initialisation. -/
def Obligations.StepKeepsTheFrameForm : Prop :=
  ∀ s t : State, s.FrameForm → step s = .next t → t.FrameForm

/-- 10_state.md R28, 60_exceptions.md R172, 40_framer.md R104: fault_cause tells whether the block is faulted, and the only
failed exchange on the trace is its newest event, which stands there exactly when COMM_FAULT is recorded. -/
def Obligations.StepKeepsTheFaultRecord : Prop :=
  ∀ s t : State, s.FaultForm → s.CommForm → step s = .next t → t.FaultForm ∧ t.CommForm

/-- 10_state.md R31, R33, 40_framer.md R102, R106, R110, R111: between operations CS_OUT is deasserted, RST_OUT is asserted
exactly in RESETTING1, and a running timer has a period of 100 ms. -/
def Obligations.StepKeepsTheLineForm : Prop :=
  ∀ s t : State, s.LineForm → step s = .next t → t.LineForm

/-- 40_framer.md R123: over any run the wire holds whole groups of bytes in the protocol's order; a fault cuts it off. -/
def Obligations.StepKeepsTheWireGrammar : Prop :=
  ∀ s t : State, s.WireForm → step s = .next t → t.WireForm

/-- 40_framer.md R115: over any number of INIT operations the reset line is driven 0 then 1 and the timer is started twice
with 100 ms, each exactly by the initialisation state reached. -/
def Obligations.StepKeepsTheInitRecord : Prop :=
  ∀ s t : State, s.InitForm → step s = .next t → t.InitForm

/-- 30_encoding.md R81, R83: no step puts a command byte on the wire other than the six. -/
def Obligations.StepKeepsTheSixCommands : Prop :=
  ∀ s t : State, s.CommandForm → step s = .next t → t.CommandForm

/-- The invariants hold right after reset, and after a reset in any configuration. -/
def Obligations.ResetMeetsTheInvariants : Prop :=
  ∀ (c : Config) (n : Nat) (host : List HostEvent) (busy : Tape Level) (timer : Tape Bool) (bus : Tape BusAnswer),
    let s := State.resetWith c n host busy timer bus
    s.RowForm ∧ s.FrameForm ∧ s.FaultForm ∧ s.CommForm ∧ s.LineForm ∧ s.WireForm ∧ s.InitForm ∧ s.CommandForm ∧
      State.reset.RowForm ∧ State.reset.FrameForm ∧ State.reset.FaultForm ∧ State.reset.CommForm ∧ State.reset.LineForm ∧
      State.reset.WireForm ∧ State.reset.InitForm ∧ State.reset.CommandForm
end

