-- ==== Sys2Proof/Laws/State.lean ====
section
/-!
SUPPORT. What each update of the state does to each field: one lemma per field per update, true by rfl, so that no proof
unfolds a record update.
-/

namespace Sys2Proof.Machine

/-! ## emit -/

@[simp] theorem emit_config (e : Event) (s : State) : (emit e s).config = s.config := rfl
@[simp] theorem emit_initState (e : Event) (s : State) : (emit e s).initState = s.initState := rfl
@[simp] theorem emit_frameOpen (e : Event) (s : State) : (emit e s).frameOpen = s.frameOpen := rfl
@[simp] theorem emit_rowsSent (e : Event) (s : State) : (emit e s).rowsSent = s.rowsSent := rfl
@[simp] theorem emit_faulted (e : Event) (s : State) : (emit e s).faulted = s.faulted := rfl
@[simp] theorem emit_faultCause (e : Event) (s : State) : (emit e s).faultCause = s.faultCause := rfl
@[simp] theorem emit_refused (e : Event) (s : State) : (emit e s).refused = s.refused := rfl
@[simp] theorem emit_rstOut (e : Event) (s : State) : (emit e s).rstOut = s.rstOut := rfl
@[simp] theorem emit_csOut (e : Event) (s : State) : (emit e s).csOut = s.csOut := rfl
@[simp] theorem emit_dcOut (e : Event) (s : State) : (emit e s).dcOut = s.dcOut := rfl
@[simp] theorem emit_timerRunning (e : Event) (s : State) : (emit e s).timerRunning = s.timerRunning := rfl
@[simp] theorem emit_timerPeriodMs (e : Event) (s : State) : (emit e s).timerPeriodMs = s.timerPeriodMs := rfl
@[simp] theorem emit_rowBuf (e : Event) (s : State) : (emit e s).rowBuf = s.rowBuf := rfl
@[simp] theorem emit_traceRev (e : Event) (s : State) : (emit e s).traceRev = e :: s.traceRev := rfl
@[simp] theorem emit_resultsRev (e : Event) (s : State) : (emit e s).resultsRev = s.resultsRev := rfl
@[simp] theorem emit_hostIn (e : Event) (s : State) : (emit e s).hostIn = s.hostIn := rfl
@[simp] theorem emit_busyIn (e : Event) (s : State) : (emit e s).busyIn = s.busyIn := rfl
@[simp] theorem emit_timerIn (e : Event) (s : State) : (emit e s).timerIn = s.timerIn := rfl
@[simp] theorem emit_busIn (e : Event) (s : State) : (emit e s).busIn = s.busIn := rfl
@[simp] theorem emit_resets (e : Event) (s : State) : (emit e s).resets = s.resets := rfl

/-! ## answer -/

@[simp] theorem answer_config (r : OpResult) (s : State) : (answer r s).config = s.config := rfl
@[simp] theorem answer_initState (r : OpResult) (s : State) : (answer r s).initState = s.initState := rfl
@[simp] theorem answer_frameOpen (r : OpResult) (s : State) : (answer r s).frameOpen = s.frameOpen := rfl
@[simp] theorem answer_rowsSent (r : OpResult) (s : State) : (answer r s).rowsSent = s.rowsSent := rfl
@[simp] theorem answer_faulted (r : OpResult) (s : State) : (answer r s).faulted = s.faulted := rfl
@[simp] theorem answer_faultCause (r : OpResult) (s : State) : (answer r s).faultCause = s.faultCause := rfl
@[simp] theorem answer_refused (r : OpResult) (s : State) : (answer r s).refused = s.refused := rfl
@[simp] theorem answer_rstOut (r : OpResult) (s : State) : (answer r s).rstOut = s.rstOut := rfl
@[simp] theorem answer_csOut (r : OpResult) (s : State) : (answer r s).csOut = s.csOut := rfl
@[simp] theorem answer_dcOut (r : OpResult) (s : State) : (answer r s).dcOut = s.dcOut := rfl
@[simp] theorem answer_timerRunning (r : OpResult) (s : State) : (answer r s).timerRunning = s.timerRunning := rfl
@[simp] theorem answer_timerPeriodMs (r : OpResult) (s : State) : (answer r s).timerPeriodMs = s.timerPeriodMs := rfl
@[simp] theorem answer_rowBuf (r : OpResult) (s : State) : (answer r s).rowBuf = s.rowBuf := rfl
@[simp] theorem answer_traceRev (r : OpResult) (s : State) : (answer r s).traceRev = s.traceRev := rfl
@[simp] theorem answer_resultsRev (r : OpResult) (s : State) : (answer r s).resultsRev = r :: s.resultsRev := rfl
@[simp] theorem answer_hostIn (r : OpResult) (s : State) : (answer r s).hostIn = s.hostIn := rfl
@[simp] theorem answer_busyIn (r : OpResult) (s : State) : (answer r s).busyIn = s.busyIn := rfl
@[simp] theorem answer_timerIn (r : OpResult) (s : State) : (answer r s).timerIn = s.timerIn := rfl
@[simp] theorem answer_busIn (r : OpResult) (s : State) : (answer r s).busIn = s.busIn := rfl
@[simp] theorem answer_resets (r : OpResult) (s : State) : (answer r s).resets = s.resets := rfl

/-! ## raise -/

@[simp] theorem raise_config (c : Cause) (s : State) : (raise c s).config = s.config := rfl
@[simp] theorem raise_initState (c : Cause) (s : State) : (raise c s).initState = s.initState := rfl
@[simp] theorem raise_frameOpen (c : Cause) (s : State) : (raise c s).frameOpen = s.frameOpen := rfl
@[simp] theorem raise_rowsSent (c : Cause) (s : State) : (raise c s).rowsSent = s.rowsSent := rfl
@[simp] theorem raise_faulted (c : Cause) (s : State) : (raise c s).faulted = true := rfl
@[simp] theorem raise_faultCause (c : Cause) (s : State) : (raise c s).faultCause = c := rfl
@[simp] theorem raise_refused (c : Cause) (s : State) : (raise c s).refused = s.refused := rfl
@[simp] theorem raise_rstOut (c : Cause) (s : State) : (raise c s).rstOut = s.rstOut := rfl
@[simp] theorem raise_csOut (c : Cause) (s : State) : (raise c s).csOut = s.csOut := rfl
@[simp] theorem raise_dcOut (c : Cause) (s : State) : (raise c s).dcOut = s.dcOut := rfl
@[simp] theorem raise_timerRunning (c : Cause) (s : State) : (raise c s).timerRunning = s.timerRunning := rfl
@[simp] theorem raise_timerPeriodMs (c : Cause) (s : State) : (raise c s).timerPeriodMs = s.timerPeriodMs := rfl
@[simp] theorem raise_rowBuf (c : Cause) (s : State) : (raise c s).rowBuf = s.rowBuf := rfl
@[simp] theorem raise_traceRev (c : Cause) (s : State) : (raise c s).traceRev = s.traceRev := rfl
@[simp] theorem raise_resultsRev (c : Cause) (s : State) : (raise c s).resultsRev = faultResult c :: s.resultsRev := rfl
@[simp] theorem raise_hostIn (c : Cause) (s : State) : (raise c s).hostIn = s.hostIn := rfl
@[simp] theorem raise_busyIn (c : Cause) (s : State) : (raise c s).busyIn = s.busyIn := rfl
@[simp] theorem raise_timerIn (c : Cause) (s : State) : (raise c s).timerIn = s.timerIn := rfl
@[simp] theorem raise_busIn (c : Cause) (s : State) : (raise c s).busIn = s.busIn := rfl
@[simp] theorem raise_resets (c : Cause) (s : State) : (raise c s).resets = s.resets := rfl

/-! ## refuse -/

@[simp] theorem refuse_config (s : State) : (refuse s).config = s.config := rfl
@[simp] theorem refuse_initState (s : State) : (refuse s).initState = s.initState := rfl
@[simp] theorem refuse_frameOpen (s : State) : (refuse s).frameOpen = s.frameOpen := rfl
@[simp] theorem refuse_rowsSent (s : State) : (refuse s).rowsSent = s.rowsSent := rfl
@[simp] theorem refuse_faulted (s : State) : (refuse s).faulted = s.faulted := rfl
@[simp] theorem refuse_faultCause (s : State) : (refuse s).faultCause = s.faultCause := rfl
@[simp] theorem refuse_refused (s : State) : (refuse s).refused = true := rfl
@[simp] theorem refuse_rstOut (s : State) : (refuse s).rstOut = s.rstOut := rfl
@[simp] theorem refuse_csOut (s : State) : (refuse s).csOut = s.csOut := rfl
@[simp] theorem refuse_dcOut (s : State) : (refuse s).dcOut = s.dcOut := rfl
@[simp] theorem refuse_timerRunning (s : State) : (refuse s).timerRunning = s.timerRunning := rfl
@[simp] theorem refuse_timerPeriodMs (s : State) : (refuse s).timerPeriodMs = s.timerPeriodMs := rfl
@[simp] theorem refuse_rowBuf (s : State) : (refuse s).rowBuf = s.rowBuf := rfl
@[simp] theorem refuse_traceRev (s : State) : (refuse s).traceRev = s.traceRev := rfl
@[simp] theorem refuse_resultsRev (s : State) : (refuse s).resultsRev = refusedResult :: s.resultsRev := rfl
@[simp] theorem refuse_hostIn (s : State) : (refuse s).hostIn = s.hostIn := rfl
@[simp] theorem refuse_busyIn (s : State) : (refuse s).busyIn = s.busyIn := rfl
@[simp] theorem refuse_timerIn (s : State) : (refuse s).timerIn = s.timerIn := rfl
@[simp] theorem refuse_busIn (s : State) : (refuse s).busIn = s.busIn := rfl
@[simp] theorem refuse_resets (s : State) : (refuse s).resets = s.resets := rfl

/-! ## answerFaulted -/

@[simp] theorem answerFaulted_config (s : State) : (answerFaulted s).config = s.config := rfl
@[simp] theorem answerFaulted_initState (s : State) : (answerFaulted s).initState = s.initState := rfl
@[simp] theorem answerFaulted_frameOpen (s : State) : (answerFaulted s).frameOpen = s.frameOpen := rfl
@[simp] theorem answerFaulted_rowsSent (s : State) : (answerFaulted s).rowsSent = s.rowsSent := rfl
@[simp] theorem answerFaulted_faulted (s : State) : (answerFaulted s).faulted = s.faulted := rfl
@[simp] theorem answerFaulted_faultCause (s : State) : (answerFaulted s).faultCause = s.faultCause := rfl
@[simp] theorem answerFaulted_refused (s : State) : (answerFaulted s).refused = s.refused := rfl
@[simp] theorem answerFaulted_rstOut (s : State) : (answerFaulted s).rstOut = s.rstOut := rfl
@[simp] theorem answerFaulted_csOut (s : State) : (answerFaulted s).csOut = s.csOut := rfl
@[simp] theorem answerFaulted_dcOut (s : State) : (answerFaulted s).dcOut = s.dcOut := rfl
@[simp] theorem answerFaulted_timerRunning (s : State) : (answerFaulted s).timerRunning = s.timerRunning := rfl
@[simp] theorem answerFaulted_timerPeriodMs (s : State) : (answerFaulted s).timerPeriodMs = s.timerPeriodMs := rfl
@[simp] theorem answerFaulted_rowBuf (s : State) : (answerFaulted s).rowBuf = s.rowBuf := rfl
@[simp] theorem answerFaulted_traceRev (s : State) : (answerFaulted s).traceRev = s.traceRev := rfl
@[simp] theorem answerFaulted_resultsRev (s : State) : (answerFaulted s).resultsRev = faultResult s.faultCause :: s.resultsRev := rfl
@[simp] theorem answerFaulted_hostIn (s : State) : (answerFaulted s).hostIn = s.hostIn := rfl
@[simp] theorem answerFaulted_busyIn (s : State) : (answerFaulted s).busyIn = s.busyIn := rfl
@[simp] theorem answerFaulted_timerIn (s : State) : (answerFaulted s).timerIn = s.timerIn := rfl
@[simp] theorem answerFaulted_busIn (s : State) : (answerFaulted s).busIn = s.busIn := rfl
@[simp] theorem answerFaulted_resets (s : State) : (answerFaulted s).resets = s.resets := rfl

/-! ## blockReset -/

@[simp] theorem blockReset_config (s : State) : (blockReset s).config = s.config := rfl
@[simp] theorem blockReset_initState (s : State) : (blockReset s).initState = .uninit := rfl
@[simp] theorem blockReset_frameOpen (s : State) : (blockReset s).frameOpen = false := rfl
@[simp] theorem blockReset_rowsSent (s : State) : (blockReset s).rowsSent = 0 := rfl
@[simp] theorem blockReset_faulted (s : State) : (blockReset s).faulted = false := rfl
@[simp] theorem blockReset_faultCause (s : State) : (blockReset s).faultCause = .none := rfl
@[simp] theorem blockReset_refused (s : State) : (blockReset s).refused = false := rfl
@[simp] theorem blockReset_rstOut (s : State) : (blockReset s).rstOut = 1#1 := rfl
@[simp] theorem blockReset_csOut (s : State) : (blockReset s).csOut = .deasserted := rfl
@[simp] theorem blockReset_dcOut (s : State) : (blockReset s).dcOut = 0#1 := rfl
@[simp] theorem blockReset_timerRunning (s : State) : (blockReset s).timerRunning = false := rfl
@[simp] theorem blockReset_timerPeriodMs (s : State) : (blockReset s).timerPeriodMs = 0 := rfl
@[simp] theorem blockReset_rowBuf (s : State) : (blockReset s).rowBuf = freeRow s.config.fillBytes (s.resets + 1) := rfl
@[simp] theorem blockReset_traceRev (s : State) : (blockReset s).traceRev = [] := rfl
@[simp] theorem blockReset_resultsRev (s : State) : (blockReset s).resultsRev = [] := rfl
@[simp] theorem blockReset_hostIn (s : State) : (blockReset s).hostIn = s.hostIn := rfl
@[simp] theorem blockReset_busyIn (s : State) : (blockReset s).busyIn = s.busyIn := rfl
@[simp] theorem blockReset_timerIn (s : State) : (blockReset s).timerIn = s.timerIn := rfl
@[simp] theorem blockReset_busIn (s : State) : (blockReset s).busIn = s.busIn := rfl
@[simp] theorem blockReset_resets (s : State) : (blockReset s).resets = s.resets + 1 := rfl

/-! ## sampleBusy -/

@[simp] theorem sampleBusy_config (s : State) : (sampleBusy s).config = s.config := rfl
@[simp] theorem sampleBusy_initState (s : State) : (sampleBusy s).initState = s.initState := rfl
@[simp] theorem sampleBusy_frameOpen (s : State) : (sampleBusy s).frameOpen = s.frameOpen := rfl
@[simp] theorem sampleBusy_rowsSent (s : State) : (sampleBusy s).rowsSent = s.rowsSent := rfl
@[simp] theorem sampleBusy_faulted (s : State) : (sampleBusy s).faulted = s.faulted := rfl
@[simp] theorem sampleBusy_faultCause (s : State) : (sampleBusy s).faultCause = s.faultCause := rfl
@[simp] theorem sampleBusy_refused (s : State) : (sampleBusy s).refused = s.refused := rfl
@[simp] theorem sampleBusy_rstOut (s : State) : (sampleBusy s).rstOut = s.rstOut := rfl
@[simp] theorem sampleBusy_csOut (s : State) : (sampleBusy s).csOut = s.csOut := rfl
@[simp] theorem sampleBusy_dcOut (s : State) : (sampleBusy s).dcOut = s.dcOut := rfl
@[simp] theorem sampleBusy_timerRunning (s : State) : (sampleBusy s).timerRunning = s.timerRunning := rfl
@[simp] theorem sampleBusy_timerPeriodMs (s : State) : (sampleBusy s).timerPeriodMs = s.timerPeriodMs := rfl
@[simp] theorem sampleBusy_rowBuf (s : State) : (sampleBusy s).rowBuf = s.rowBuf := rfl
@[simp] theorem sampleBusy_traceRev (s : State) : (sampleBusy s).traceRev = .busy s.busyLevel :: s.traceRev := rfl
@[simp] theorem sampleBusy_resultsRev (s : State) : (sampleBusy s).resultsRev = s.resultsRev := rfl
@[simp] theorem sampleBusy_hostIn (s : State) : (sampleBusy s).hostIn = s.hostIn := rfl
@[simp] theorem sampleBusy_busyIn (s : State) : (sampleBusy s).busyIn = s.busyIn.tail := rfl
@[simp] theorem sampleBusy_timerIn (s : State) : (sampleBusy s).timerIn = s.timerIn := rfl
@[simp] theorem sampleBusy_busIn (s : State) : (sampleBusy s).busIn = s.busIn := rfl
@[simp] theorem sampleBusy_resets (s : State) : (sampleBusy s).resets = s.resets := rfl

/-! ## timerStart -/

@[simp] theorem timerStart_config (ms : Nat) (s : State) : (timerStart ms s).config = s.config := rfl
@[simp] theorem timerStart_initState (ms : Nat) (s : State) : (timerStart ms s).initState = s.initState := rfl
@[simp] theorem timerStart_frameOpen (ms : Nat) (s : State) : (timerStart ms s).frameOpen = s.frameOpen := rfl
@[simp] theorem timerStart_rowsSent (ms : Nat) (s : State) : (timerStart ms s).rowsSent = s.rowsSent := rfl
@[simp] theorem timerStart_faulted (ms : Nat) (s : State) : (timerStart ms s).faulted = s.faulted := rfl
@[simp] theorem timerStart_faultCause (ms : Nat) (s : State) : (timerStart ms s).faultCause = s.faultCause := rfl
@[simp] theorem timerStart_refused (ms : Nat) (s : State) : (timerStart ms s).refused = s.refused := rfl
@[simp] theorem timerStart_rstOut (ms : Nat) (s : State) : (timerStart ms s).rstOut = s.rstOut := rfl
@[simp] theorem timerStart_csOut (ms : Nat) (s : State) : (timerStart ms s).csOut = s.csOut := rfl
@[simp] theorem timerStart_dcOut (ms : Nat) (s : State) : (timerStart ms s).dcOut = s.dcOut := rfl
@[simp] theorem timerStart_timerRunning (ms : Nat) (s : State) : (timerStart ms s).timerRunning = true := rfl
@[simp] theorem timerStart_timerPeriodMs (ms : Nat) (s : State) : (timerStart ms s).timerPeriodMs = ms := rfl
@[simp] theorem timerStart_rowBuf (ms : Nat) (s : State) : (timerStart ms s).rowBuf = s.rowBuf := rfl
@[simp] theorem timerStart_traceRev (ms : Nat) (s : State) : (timerStart ms s).traceRev = .timerStart ms :: s.traceRev := rfl
@[simp] theorem timerStart_resultsRev (ms : Nat) (s : State) : (timerStart ms s).resultsRev = s.resultsRev := rfl
@[simp] theorem timerStart_hostIn (ms : Nat) (s : State) : (timerStart ms s).hostIn = s.hostIn := rfl
@[simp] theorem timerStart_busyIn (ms : Nat) (s : State) : (timerStart ms s).busyIn = s.busyIn := rfl
@[simp] theorem timerStart_timerIn (ms : Nat) (s : State) : (timerStart ms s).timerIn = s.timerIn := rfl
@[simp] theorem timerStart_busIn (ms : Nat) (s : State) : (timerStart ms s).busIn = s.busIn := rfl
@[simp] theorem timerStart_resets (ms : Nat) (s : State) : (timerStart ms s).resets = s.resets := rfl

/-! ## timerPoll -/

@[simp] theorem timerPoll_config (s : State) : (timerPoll s).config = s.config := rfl
@[simp] theorem timerPoll_initState (s : State) : (timerPoll s).initState = s.initState := rfl
@[simp] theorem timerPoll_frameOpen (s : State) : (timerPoll s).frameOpen = s.frameOpen := rfl
@[simp] theorem timerPoll_rowsSent (s : State) : (timerPoll s).rowsSent = s.rowsSent := rfl
@[simp] theorem timerPoll_faulted (s : State) : (timerPoll s).faulted = s.faulted := rfl
@[simp] theorem timerPoll_faultCause (s : State) : (timerPoll s).faultCause = s.faultCause := rfl
@[simp] theorem timerPoll_refused (s : State) : (timerPoll s).refused = s.refused := rfl
@[simp] theorem timerPoll_rstOut (s : State) : (timerPoll s).rstOut = s.rstOut := rfl
@[simp] theorem timerPoll_csOut (s : State) : (timerPoll s).csOut = s.csOut := rfl
@[simp] theorem timerPoll_dcOut (s : State) : (timerPoll s).dcOut = s.dcOut := rfl
@[simp] theorem timerPoll_timerRunning (s : State) : (timerPoll s).timerRunning = (s.timerRunning && !s.timerExpired) := rfl
@[simp] theorem timerPoll_timerPeriodMs (s : State) : (timerPoll s).timerPeriodMs = s.timerPeriodMs := rfl
@[simp] theorem timerPoll_rowBuf (s : State) : (timerPoll s).rowBuf = s.rowBuf := rfl
@[simp] theorem timerPoll_traceRev (s : State) : (timerPoll s).traceRev = .timerPoll s.timerExpired :: s.traceRev := rfl
@[simp] theorem timerPoll_resultsRev (s : State) : (timerPoll s).resultsRev = s.resultsRev := rfl
@[simp] theorem timerPoll_hostIn (s : State) : (timerPoll s).hostIn = s.hostIn := rfl
@[simp] theorem timerPoll_busyIn (s : State) : (timerPoll s).busyIn = s.busyIn := rfl
@[simp] theorem timerPoll_timerIn (s : State) : (timerPoll s).timerIn = s.timerIn.tail := rfl
@[simp] theorem timerPoll_busIn (s : State) : (timerPoll s).busIn = s.busIn := rfl
@[simp] theorem timerPoll_resets (s : State) : (timerPoll s).resets = s.resets := rfl

/-! ## delay -/

@[simp] theorem delay_config (ms : Nat) (s : State) : (delay ms s).config = s.config := rfl
@[simp] theorem delay_initState (ms : Nat) (s : State) : (delay ms s).initState = s.initState := rfl
@[simp] theorem delay_frameOpen (ms : Nat) (s : State) : (delay ms s).frameOpen = s.frameOpen := rfl
@[simp] theorem delay_rowsSent (ms : Nat) (s : State) : (delay ms s).rowsSent = s.rowsSent := rfl
@[simp] theorem delay_faulted (ms : Nat) (s : State) : (delay ms s).faulted = s.faulted := rfl
@[simp] theorem delay_faultCause (ms : Nat) (s : State) : (delay ms s).faultCause = s.faultCause := rfl
@[simp] theorem delay_refused (ms : Nat) (s : State) : (delay ms s).refused = s.refused := rfl
@[simp] theorem delay_rstOut (ms : Nat) (s : State) : (delay ms s).rstOut = s.rstOut := rfl
@[simp] theorem delay_csOut (ms : Nat) (s : State) : (delay ms s).csOut = s.csOut := rfl
@[simp] theorem delay_dcOut (ms : Nat) (s : State) : (delay ms s).dcOut = s.dcOut := rfl
@[simp] theorem delay_timerRunning (ms : Nat) (s : State) : (delay ms s).timerRunning = s.timerRunning := rfl
@[simp] theorem delay_timerPeriodMs (ms : Nat) (s : State) : (delay ms s).timerPeriodMs = s.timerPeriodMs := rfl
@[simp] theorem delay_rowBuf (ms : Nat) (s : State) : (delay ms s).rowBuf = s.rowBuf := rfl
@[simp] theorem delay_traceRev (ms : Nat) (s : State) : (delay ms s).traceRev = .delay ms :: s.traceRev := rfl
@[simp] theorem delay_resultsRev (ms : Nat) (s : State) : (delay ms s).resultsRev = s.resultsRev := rfl
@[simp] theorem delay_hostIn (ms : Nat) (s : State) : (delay ms s).hostIn = s.hostIn := rfl
@[simp] theorem delay_busyIn (ms : Nat) (s : State) : (delay ms s).busyIn = s.busyIn := rfl
@[simp] theorem delay_timerIn (ms : Nat) (s : State) : (delay ms s).timerIn = s.timerIn := rfl
@[simp] theorem delay_busIn (ms : Nat) (s : State) : (delay ms s).busIn = s.busIn := rfl
@[simp] theorem delay_resets (ms : Nat) (s : State) : (delay ms s).resets = s.resets := rfl

/-! ## rstWrite -/

@[simp] theorem rstWrite_config (level : Level) (s : State) : (rstWrite level s).config = s.config := rfl
@[simp] theorem rstWrite_initState (level : Level) (s : State) : (rstWrite level s).initState = s.initState := rfl
@[simp] theorem rstWrite_frameOpen (level : Level) (s : State) : (rstWrite level s).frameOpen = s.frameOpen := rfl
@[simp] theorem rstWrite_rowsSent (level : Level) (s : State) : (rstWrite level s).rowsSent = s.rowsSent := rfl
@[simp] theorem rstWrite_faulted (level : Level) (s : State) : (rstWrite level s).faulted = s.faulted := rfl
@[simp] theorem rstWrite_faultCause (level : Level) (s : State) : (rstWrite level s).faultCause = s.faultCause := rfl
@[simp] theorem rstWrite_refused (level : Level) (s : State) : (rstWrite level s).refused = s.refused := rfl
@[simp] theorem rstWrite_rstOut (level : Level) (s : State) : (rstWrite level s).rstOut = level := rfl
@[simp] theorem rstWrite_csOut (level : Level) (s : State) : (rstWrite level s).csOut = s.csOut := rfl
@[simp] theorem rstWrite_dcOut (level : Level) (s : State) : (rstWrite level s).dcOut = s.dcOut := rfl
@[simp] theorem rstWrite_timerRunning (level : Level) (s : State) : (rstWrite level s).timerRunning = s.timerRunning := rfl
@[simp] theorem rstWrite_timerPeriodMs (level : Level) (s : State) : (rstWrite level s).timerPeriodMs = s.timerPeriodMs := rfl
@[simp] theorem rstWrite_rowBuf (level : Level) (s : State) : (rstWrite level s).rowBuf = s.rowBuf := rfl
@[simp] theorem rstWrite_traceRev (level : Level) (s : State) : (rstWrite level s).traceRev = .rst level :: s.traceRev := rfl
@[simp] theorem rstWrite_resultsRev (level : Level) (s : State) : (rstWrite level s).resultsRev = s.resultsRev := rfl
@[simp] theorem rstWrite_hostIn (level : Level) (s : State) : (rstWrite level s).hostIn = s.hostIn := rfl
@[simp] theorem rstWrite_busyIn (level : Level) (s : State) : (rstWrite level s).busyIn = s.busyIn := rfl
@[simp] theorem rstWrite_timerIn (level : Level) (s : State) : (rstWrite level s).timerIn = s.timerIn := rfl
@[simp] theorem rstWrite_busIn (level : Level) (s : State) : (rstWrite level s).busIn = s.busIn := rfl
@[simp] theorem rstWrite_resets (level : Level) (s : State) : (rstWrite level s).resets = s.resets := rfl

/-! ## driveDc -/

@[simp] theorem driveDc_config (dc : Level) (s : State) : (driveDc dc s).config = s.config := rfl
@[simp] theorem driveDc_initState (dc : Level) (s : State) : (driveDc dc s).initState = s.initState := rfl
@[simp] theorem driveDc_frameOpen (dc : Level) (s : State) : (driveDc dc s).frameOpen = s.frameOpen := rfl
@[simp] theorem driveDc_rowsSent (dc : Level) (s : State) : (driveDc dc s).rowsSent = s.rowsSent := rfl
@[simp] theorem driveDc_faulted (dc : Level) (s : State) : (driveDc dc s).faulted = s.faulted := rfl
@[simp] theorem driveDc_faultCause (dc : Level) (s : State) : (driveDc dc s).faultCause = s.faultCause := rfl
@[simp] theorem driveDc_refused (dc : Level) (s : State) : (driveDc dc s).refused = s.refused := rfl
@[simp] theorem driveDc_rstOut (dc : Level) (s : State) : (driveDc dc s).rstOut = s.rstOut := rfl
@[simp] theorem driveDc_csOut (dc : Level) (s : State) : (driveDc dc s).csOut = s.csOut := rfl
@[simp] theorem driveDc_dcOut (dc : Level) (s : State) : (driveDc dc s).dcOut = dc := rfl
@[simp] theorem driveDc_timerRunning (dc : Level) (s : State) : (driveDc dc s).timerRunning = s.timerRunning := rfl
@[simp] theorem driveDc_timerPeriodMs (dc : Level) (s : State) : (driveDc dc s).timerPeriodMs = s.timerPeriodMs := rfl
@[simp] theorem driveDc_rowBuf (dc : Level) (s : State) : (driveDc dc s).rowBuf = s.rowBuf := rfl
@[simp] theorem driveDc_traceRev (dc : Level) (s : State) : (driveDc dc s).traceRev = s.traceRev := rfl
@[simp] theorem driveDc_resultsRev (dc : Level) (s : State) : (driveDc dc s).resultsRev = s.resultsRev := rfl
@[simp] theorem driveDc_hostIn (dc : Level) (s : State) : (driveDc dc s).hostIn = s.hostIn := rfl
@[simp] theorem driveDc_busyIn (dc : Level) (s : State) : (driveDc dc s).busyIn = s.busyIn := rfl
@[simp] theorem driveDc_timerIn (dc : Level) (s : State) : (driveDc dc s).timerIn = s.timerIn := rfl
@[simp] theorem driveDc_busIn (dc : Level) (s : State) : (driveDc dc s).busIn = s.busIn := rfl
@[simp] theorem driveDc_resets (dc : Level) (s : State) : (driveDc dc s).resets = s.resets := rfl

/-! ## driveCs -/

@[simp] theorem driveCs_config (c : ChipSelect) (s : State) : (driveCs c s).config = s.config := rfl
@[simp] theorem driveCs_initState (c : ChipSelect) (s : State) : (driveCs c s).initState = s.initState := rfl
@[simp] theorem driveCs_frameOpen (c : ChipSelect) (s : State) : (driveCs c s).frameOpen = s.frameOpen := rfl
@[simp] theorem driveCs_rowsSent (c : ChipSelect) (s : State) : (driveCs c s).rowsSent = s.rowsSent := rfl
@[simp] theorem driveCs_faulted (c : ChipSelect) (s : State) : (driveCs c s).faulted = s.faulted := rfl
@[simp] theorem driveCs_faultCause (c : ChipSelect) (s : State) : (driveCs c s).faultCause = s.faultCause := rfl
@[simp] theorem driveCs_refused (c : ChipSelect) (s : State) : (driveCs c s).refused = s.refused := rfl
@[simp] theorem driveCs_rstOut (c : ChipSelect) (s : State) : (driveCs c s).rstOut = s.rstOut := rfl
@[simp] theorem driveCs_csOut (c : ChipSelect) (s : State) : (driveCs c s).csOut = c := rfl
@[simp] theorem driveCs_dcOut (c : ChipSelect) (s : State) : (driveCs c s).dcOut = s.dcOut := rfl
@[simp] theorem driveCs_timerRunning (c : ChipSelect) (s : State) : (driveCs c s).timerRunning = s.timerRunning := rfl
@[simp] theorem driveCs_timerPeriodMs (c : ChipSelect) (s : State) : (driveCs c s).timerPeriodMs = s.timerPeriodMs := rfl
@[simp] theorem driveCs_rowBuf (c : ChipSelect) (s : State) : (driveCs c s).rowBuf = s.rowBuf := rfl
@[simp] theorem driveCs_traceRev (c : ChipSelect) (s : State) : (driveCs c s).traceRev = s.traceRev := rfl
@[simp] theorem driveCs_resultsRev (c : ChipSelect) (s : State) : (driveCs c s).resultsRev = s.resultsRev := rfl
@[simp] theorem driveCs_hostIn (c : ChipSelect) (s : State) : (driveCs c s).hostIn = s.hostIn := rfl
@[simp] theorem driveCs_busyIn (c : ChipSelect) (s : State) : (driveCs c s).busyIn = s.busyIn := rfl
@[simp] theorem driveCs_timerIn (c : ChipSelect) (s : State) : (driveCs c s).timerIn = s.timerIn := rfl
@[simp] theorem driveCs_busIn (c : ChipSelect) (s : State) : (driveCs c s).busIn = s.busIn := rfl
@[simp] theorem driveCs_resets (c : ChipSelect) (s : State) : (driveCs c s).resets = s.resets := rfl

/-! ## busExchange -/

@[simp] theorem busExchange_config (s : State) : (busExchange s).config = s.config := rfl
@[simp] theorem busExchange_initState (s : State) : (busExchange s).initState = s.initState := rfl
@[simp] theorem busExchange_frameOpen (s : State) : (busExchange s).frameOpen = s.frameOpen := rfl
@[simp] theorem busExchange_rowsSent (s : State) : (busExchange s).rowsSent = s.rowsSent := rfl
@[simp] theorem busExchange_faulted (s : State) : (busExchange s).faulted = s.faulted := rfl
@[simp] theorem busExchange_faultCause (s : State) : (busExchange s).faultCause = s.faultCause := rfl
@[simp] theorem busExchange_refused (s : State) : (busExchange s).refused = s.refused := rfl
@[simp] theorem busExchange_rstOut (s : State) : (busExchange s).rstOut = s.rstOut := rfl
@[simp] theorem busExchange_csOut (s : State) : (busExchange s).csOut = s.csOut := rfl
@[simp] theorem busExchange_dcOut (s : State) : (busExchange s).dcOut = s.dcOut := rfl
@[simp] theorem busExchange_timerRunning (s : State) : (busExchange s).timerRunning = s.timerRunning := rfl
@[simp] theorem busExchange_timerPeriodMs (s : State) : (busExchange s).timerPeriodMs = s.timerPeriodMs := rfl
@[simp] theorem busExchange_rowBuf (s : State) : (busExchange s).rowBuf = s.rowBuf := rfl
@[simp] theorem busExchange_traceRev (s : State) : (busExchange s).traceRev = s.traceRev := rfl
@[simp] theorem busExchange_resultsRev (s : State) : (busExchange s).resultsRev = s.resultsRev := rfl
@[simp] theorem busExchange_hostIn (s : State) : (busExchange s).hostIn = s.hostIn := rfl
@[simp] theorem busExchange_busyIn (s : State) : (busExchange s).busyIn = s.busyIn := rfl
@[simp] theorem busExchange_timerIn (s : State) : (busExchange s).timerIn = s.timerIn := rfl
@[simp] theorem busExchange_busIn (s : State) : (busExchange s).busIn = s.busIn.tail := rfl
@[simp] theorem busExchange_resets (s : State) : (busExchange s).resets = s.resets := rfl

/-! ## placeNext -/

@[simp] theorem placeNext_config (d : Descriptor) (s : State) : (placeNext d s).config = s.config := rfl
@[simp] theorem placeNext_initState (d : Descriptor) (s : State) : (placeNext d s).initState = s.initState := rfl
@[simp] theorem placeNext_frameOpen (d : Descriptor) (s : State) : (placeNext d s).frameOpen = s.frameOpen := rfl
@[simp] theorem placeNext_rowsSent (d : Descriptor) (s : State) : (placeNext d s).rowsSent = s.rowsSent := rfl
@[simp] theorem placeNext_faulted (d : Descriptor) (s : State) : (placeNext d s).faulted = s.faulted := rfl
@[simp] theorem placeNext_faultCause (d : Descriptor) (s : State) : (placeNext d s).faultCause = s.faultCause := rfl
@[simp] theorem placeNext_refused (d : Descriptor) (s : State) : (placeNext d s).refused = s.refused := rfl
@[simp] theorem placeNext_rstOut (d : Descriptor) (s : State) : (placeNext d s).rstOut = s.rstOut := rfl
@[simp] theorem placeNext_csOut (d : Descriptor) (s : State) : (placeNext d s).csOut = s.csOut := rfl
@[simp] theorem placeNext_dcOut (d : Descriptor) (s : State) : (placeNext d s).dcOut = s.dcOut := rfl
@[simp] theorem placeNext_timerRunning (d : Descriptor) (s : State) : (placeNext d s).timerRunning = s.timerRunning := rfl
@[simp] theorem placeNext_timerPeriodMs (d : Descriptor) (s : State) : (placeNext d s).timerPeriodMs = s.timerPeriodMs := rfl
@[simp] theorem placeNext_rowBuf (d : Descriptor) (s : State) : (placeNext d s).rowBuf = s.rowBuf := rfl
@[simp] theorem placeNext_traceRev (d : Descriptor) (s : State) : (placeNext d s).traceRev = s.traceRev := rfl
@[simp] theorem placeNext_resultsRev (d : Descriptor) (s : State) : (placeNext d s).resultsRev = s.resultsRev := rfl
@[simp] theorem placeNext_hostIn (d : Descriptor) (s : State) : (placeNext d s).hostIn = .issue d :: s.hostIn := rfl
@[simp] theorem placeNext_busyIn (d : Descriptor) (s : State) : (placeNext d s).busyIn = s.busyIn := rfl
@[simp] theorem placeNext_timerIn (d : Descriptor) (s : State) : (placeNext d s).timerIn = s.timerIn := rfl
@[simp] theorem placeNext_busIn (d : Descriptor) (s : State) : (placeNext d s).busIn = s.busIn := rfl
@[simp] theorem placeNext_resets (d : Descriptor) (s : State) : (placeNext d s).resets = s.resets := rfl

end Sys2Proof.Machine
end

