-- ==== Sys2Proof/Laws/Memory.lean ====
section
/-!
SUPPORT. The row buffer: reading after writing, what each operation does to every byte, and that every operation keeps the
buffer's form.
-/

namespace Sys2Proof.Machine

theorem Memory.wf_iff (n : Nat) (m : Memory) : m.wf n = true ↔ m.length = n := by
  simp [Memory.wf]

@[simp] theorem Memory.write_length (m : Memory) (k : Nat) (v : Byte) : (m.write k v).length = m.length := by
  simp [Memory.write]

theorem Memory.read_write_same (m : Memory) (k : Nat) (v : Byte) (h : k < m.length) : (m.write k v).read k = v := by
  simp [Memory.read, Memory.write, h]

theorem Memory.read_write_other (m : Memory) (j k : Nat) (v : Byte) (h : j ≠ k) : (m.write k v).read j = m.read j := by
  simp [Memory.read, Memory.write, List.getElem?_set_ne (Ne.symm h)]

theorem Memory.read_write (m : Memory) (j k : Nat) (v : Byte) (h : k < m.length) :
    (m.write k v).read j = if j = k then v else m.read j := by
  split
  · subst j; exact m.read_write_same k v h
  · exact m.read_write_other j k v ‹_›

/-- Equal bytes at every address make equal buffers. -/
theorem Memory.ext_read {m m' : Memory} (hl : m.length = m'.length) (h : ∀ k, m.read k = m'.read k) : m = m' := by
  apply List.ext_getElem hl
  intro k h1 h2
  have := h k
  simpa [Memory.read, List.getD_eq_getElem?_getD, h1, h2] using this

@[simp] theorem applyMask_length (k : Nat) (mask : Byte) (b : Level) (m : Memory) :
    (applyMask k mask b m).length = m.length := by
  simp [applyMask]

/-- apply changes the bits of its mask in one byte (R145). -/
theorem applyMask_read (k : Nat) (mask : Byte) (b : Level) (m : Memory) (h : k < m.length) (j : Nat) :
    (applyMask k mask b m).read j =
      if j = k then (m.read k &&& ~~~mask) ||| (if b = 1#1 then mask else 0#8) else m.read j := by
  unfold applyMask
  rw [Memory.read_write _ _ _ _ h]
  split
  · subst j
    split
    · ext i hi
      simp
      cases (m.read k)[i] <;> cases mask[i] <;> rfl
    · simp
  · rfl

@[simp] theorem fillBytes_length (b : Level) (k n : Nat) (m : Memory) : (fillBytes b k n m).length = m.length := by
  induction n generalizing k m with
  | zero => rfl
  | succ n ih => simp [fillBytes, ih]

/-- The interior bytes and no others are written (R145). -/
theorem fillBytes_read (b : Level) (k n : Nat) (m : Memory) (h : k + n ≤ m.length) (j : Nat) :
    (fillBytes b k n m).read j =
      if k ≤ j ∧ j < k + n then (if b = 1#1 then 0xFF#8 else 0x00#8) else m.read j := by
  induction n generalizing k m with
  | zero =>
    have : ¬ (k ≤ j ∧ j < k + 0) := by omega
    rw [if_neg this]
    rfl
  | succ n ih =>
    rw [fillBytes, ih _ _ (by simp; omega), Memory.read_write _ _ _ _ (by omega)]
    generalize (if b = 1#1 then 0xFF#8 else 0x00#8) = v
    by_cases h1 : k + 1 ≤ j ∧ j < k + 1 + n
    · rw [if_pos h1, if_pos (by omega)]
    · rw [if_neg h1]
      by_cases h2 : j = k
      · rw [if_pos h2, if_pos (by omega)]
      · rw [if_neg h2, if_neg (by omega)]

@[simp] theorem fillSpan_length (o : BitOrder) (b : Level) (l r : Nat) (m : Memory) :
    (fillSpan o b l r m).length = m.length := by
  simp only [fillSpan]
  split <;> simp

/-- Every memory operation keeps the row buffer's form. -/
theorem Memory.write_wf (n : Nat) (m : Memory) (k : Nat) (v : Byte) (h : m.wf n = true) : (m.write k v).wf n = true := by
  simpa [Memory.wf_iff] using h

theorem fillSpan_wf (n : Nat) (o : BitOrder) (b : Level) (l r : Nat) (m : Memory) (h : m.wf n = true) :
    (fillSpan o b l r m).wf n = true := by
  simpa [Memory.wf_iff] using h

/-- The content a reset leaves has the form. -/
theorem freeRow_wf (n k : Nat) : Memory.wf n (freeRow n k) = true := by
  simp [Memory.wf_iff, freeRow]

theorem reset_row_wf : State.reset.RowForm := freeRow_wf _ _

end Sys2Proof.Machine
end

