-- ==== Sys2Proof/Laws/Ops.lean ====
section
/-!
SUPPORT. One lemma per shared operation that says everything it can do: drawing an answer, the common checks, one byte
exchange, a sequence of bytes. Later proofs cite these and do not unfold the operations.
-/

namespace Sys2Proof.Machine

/-! ## Tapes -/

@[simp] theorem Tape.nth_zero {α : Type} (free : Nat → α) (t : Tape α) : t.nth free 0 = t.head free := by
  rcases t with ⟨_ | ⟨a, as⟩, n⟩ <;> rfl

@[simp] theorem Tape.nth_tail {α : Type} (free : Nat → α) (t : Tape α) (k : Nat) :
    t.tail.nth free k = t.nth free (k + 1) := by
  rcases t with ⟨_ | ⟨a, as⟩, n⟩ <;> simp [Tape.tail, Tape.nth, Nat.add_assoc, Nat.add_comm 1 k]

@[simp] theorem Tape.nth_drop {α : Type} (free : Nat → α) (t : Tape α) (j k : Nat) :
    (t.drop j).nth free k = t.nth free (j + k) := by
  rcases t with ⟨g, n⟩
  simp [Tape.drop, Tape.nth, Nat.add_assoc]

@[simp] theorem Tape.drop_zero {α : Type} (t : Tape α) : t.drop 0 = t := by
  rcases t with ⟨g, n⟩
  simp [Tape.drop]

@[simp] theorem Tape.drop_tail {α : Type} (t : Tape α) (k : Nat) : t.tail.drop k = t.drop (k + 1) := by
  rcases t with ⟨g, n⟩
  simp [Tape.drop, Tape.tail, Nat.add_assoc, Nat.add_comm 1 k]

theorem Tape.drop_drop {α : Type} (t : Tape α) (j k : Nat) : (t.drop j).drop k = t.drop (j + k) := by
  rcases t with ⟨g, n⟩
  simp [Tape.drop, Nat.add_assoc]

/-- The answers to come decide the next one: answer 0 is the next exchange's. -/
theorem State.busOk_zero (s : State) : s.busOk 0 = s.busAnswer.ok := by
  simp [State.busOk, State.busAnswer]

theorem State.busOkFor_iff (s : State) (n : Nat) : s.busOkFor n = true ↔ ∀ k < n, s.busOk k = true := by
  simp [State.busOkFor]

/-- Either the next `n` exchanges all succeed, or there is a first one that fails. -/
theorem State.busOk_first_failure (s : State) (n : Nat) :
    s.busOkFor n = true ∨ ∃ k < n, (∀ j < k, s.busOk j = true) ∧ s.busOk k = false := by
  by_cases h : ∃ k, k < n ∧ s.busOk k = false
  · right
    classical
    refine ⟨Nat.find h, (Nat.find_spec h).1, fun j hj => ?_, (Nat.find_spec h).2⟩
    have hn := Nat.find_min h hj
    have hlt : j < n := lt_trans hj (Nat.find_spec h).1
    cases hb : s.busOk j
    · exact absurd ⟨hlt, hb⟩ hn
    · rfl
  · left
    rw [State.busOkFor_iff]
    intro k hk
    cases hb : s.busOk k
    · exact absurd ⟨k, hk, hb⟩ h
    · rfl

/-! ## The common checks -/

/-- Everything the common checks can answer (R173 steps 1 and 2). -/
theorem guarded_cases (body : State → State) (s : State) :
    (s.faulted = true ∧ guarded body s = .next (answerFaulted s)) ∨
      (s.faulted = false ∧ s.refused = true ∧ guarded body s = .fault .stuckAfterRefusal) ∨
      (s.Live ∧ guarded body s = .next (body s)) := by
  unfold guarded
  cases hf : s.faulted <;> cases hr : s.refused <;> simp [State.Live, hf, hr]

@[simp] theorem guarded_live (body : State → State) (s : State) (h : s.Live) : guarded body s = .next (body s) := by
  simp [guarded, h.1, h.2]

theorem guarded_faulted (body : State → State) (s : State) (h : s.faulted = true) :
    guarded body s = .next (answerFaulted s) := by
  simp [guarded, h]

/-- The only next states of a checked operation: a faulted block's answer, or the operation's own. -/
theorem guarded_next (body : State → State) (s t : State) (h : guarded body s = .next t) :
    (s.faulted = true ∧ t = answerFaulted s) ∨ (s.Live ∧ t = body s) := by
  rcases guarded_cases body s with ⟨hf, he⟩ | ⟨_, _, he⟩ | ⟨hl, he⟩
  · left; rw [he] at h; cases h; exact ⟨hf, rfl⟩
  · rw [he] at h; cases h
  · right; rw [he] at h; cases h; exact ⟨hl, rfl⟩

/-! ## Byte exchanges -/

/-- The event of a successful exchange. -/
def okEvent (b : WireByte) : Event := .byte b.1 b.2 true

/-- What a successful exchange of one byte leaves (R100). -/
theorem byteXfer_ok (b : WireByte) (s : State) (h : s.busOk 0 = true) :
    byteXfer b s =
      { s with dcOut := b.1, csOut := .deasserted, busIn := s.busIn.tail, traceRev := okEvent b :: s.traceRev } := by
  have h' : s.busAnswer.ok = true := by rw [← State.busOk_zero]; exact h
  simp [byteXfer, h', okEvent, emit, driveCs, driveDc, busExchange]

/-- What a failed exchange leaves: the failing byte's event, then the fault (R104). -/
theorem byteXfer_fail (b : WireByte) (s : State) (h : s.busOk 0 = false) :
    byteXfer b s =
      raise .commFault
        { s with dcOut := b.1, csOut := .deasserted, busIn := s.busIn.tail, traceRev := .byte b.1 b.2 false :: s.traceRev } := by
  have h' : s.busAnswer.ok = false := by rw [← State.busOk_zero]; exact h
  simp [byteXfer, h', emit, driveCs, driveDc, busExchange]

/-- The state after a sequence whose exchanges all succeed. -/
def sentOk (bs : List WireByte) (s : State) : State :=
  { s with
    dcOut := (bs.getLast?.map Prod.fst).getD s.dcOut
    csOut := if bs = [] then s.csOut else .deasserted
    busIn := s.busIn.drop bs.length
    traceRev := (bs.map okEvent).reverse ++ s.traceRev }

/-- The state after a sequence whose exchange `k` is the first to fail, before the fault is raised; `b` is byte `k`. -/
def sentFail (bs : List WireByte) (k : Nat) (b : WireByte) (s : State) : State :=
  { s with
    dcOut := b.1
    csOut := .deasserted
    busIn := s.busIn.drop (k + 1)
    traceRev := .byte b.1 b.2 false :: (((bs.take k).map okEvent).reverse ++ s.traceRev) }

@[simp] theorem sentOk_config (bs : List WireByte) (s : State) : (sentOk bs s).config = s.config := rfl
@[simp] theorem sentOk_initState (bs : List WireByte) (s : State) : (sentOk bs s).initState = s.initState := rfl
@[simp] theorem sentOk_frameOpen (bs : List WireByte) (s : State) : (sentOk bs s).frameOpen = s.frameOpen := rfl
@[simp] theorem sentOk_rowsSent (bs : List WireByte) (s : State) : (sentOk bs s).rowsSent = s.rowsSent := rfl
@[simp] theorem sentOk_faulted (bs : List WireByte) (s : State) : (sentOk bs s).faulted = s.faulted := rfl
@[simp] theorem sentOk_faultCause (bs : List WireByte) (s : State) : (sentOk bs s).faultCause = s.faultCause := rfl
@[simp] theorem sentOk_refused (bs : List WireByte) (s : State) : (sentOk bs s).refused = s.refused := rfl
@[simp] theorem sentOk_rstOut (bs : List WireByte) (s : State) : (sentOk bs s).rstOut = s.rstOut := rfl
@[simp] theorem sentOk_timerRunning (bs : List WireByte) (s : State) : (sentOk bs s).timerRunning = s.timerRunning := rfl
@[simp] theorem sentOk_timerPeriodMs (bs : List WireByte) (s : State) : (sentOk bs s).timerPeriodMs = s.timerPeriodMs := rfl
@[simp] theorem sentOk_rowBuf (bs : List WireByte) (s : State) : (sentOk bs s).rowBuf = s.rowBuf := rfl
@[simp] theorem sentOk_resultsRev (bs : List WireByte) (s : State) : (sentOk bs s).resultsRev = s.resultsRev := rfl
@[simp] theorem sentOk_hostIn (bs : List WireByte) (s : State) : (sentOk bs s).hostIn = s.hostIn := rfl
@[simp] theorem sentOk_busyIn (bs : List WireByte) (s : State) : (sentOk bs s).busyIn = s.busyIn := rfl
@[simp] theorem sentOk_timerIn (bs : List WireByte) (s : State) : (sentOk bs s).timerIn = s.timerIn := rfl
@[simp] theorem sentOk_resets (bs : List WireByte) (s : State) : (sentOk bs s).resets = s.resets := rfl

@[simp] theorem sentFail_config (bs : List WireByte) (k : Nat) (b : WireByte) (s : State) : (sentFail bs k b s).config = s.config := rfl
@[simp] theorem sentFail_initState (bs : List WireByte) (k : Nat) (b : WireByte) (s : State) : (sentFail bs k b s).initState = s.initState := rfl
@[simp] theorem sentFail_frameOpen (bs : List WireByte) (k : Nat) (b : WireByte) (s : State) : (sentFail bs k b s).frameOpen = s.frameOpen := rfl
@[simp] theorem sentFail_rowsSent (bs : List WireByte) (k : Nat) (b : WireByte) (s : State) : (sentFail bs k b s).rowsSent = s.rowsSent := rfl
@[simp] theorem sentFail_faulted (bs : List WireByte) (k : Nat) (b : WireByte) (s : State) : (sentFail bs k b s).faulted = s.faulted := rfl
@[simp] theorem sentFail_faultCause (bs : List WireByte) (k : Nat) (b : WireByte) (s : State) : (sentFail bs k b s).faultCause = s.faultCause := rfl
@[simp] theorem sentFail_refused (bs : List WireByte) (k : Nat) (b : WireByte) (s : State) : (sentFail bs k b s).refused = s.refused := rfl
@[simp] theorem sentFail_rstOut (bs : List WireByte) (k : Nat) (b : WireByte) (s : State) : (sentFail bs k b s).rstOut = s.rstOut := rfl
@[simp] theorem sentFail_timerRunning (bs : List WireByte) (k : Nat) (b : WireByte) (s : State) : (sentFail bs k b s).timerRunning = s.timerRunning := rfl
@[simp] theorem sentFail_timerPeriodMs (bs : List WireByte) (k : Nat) (b : WireByte) (s : State) : (sentFail bs k b s).timerPeriodMs = s.timerPeriodMs := rfl
@[simp] theorem sentFail_rowBuf (bs : List WireByte) (k : Nat) (b : WireByte) (s : State) : (sentFail bs k b s).rowBuf = s.rowBuf := rfl
@[simp] theorem sentFail_resultsRev (bs : List WireByte) (k : Nat) (b : WireByte) (s : State) : (sentFail bs k b s).resultsRev = s.resultsRev := rfl
@[simp] theorem sentFail_hostIn (bs : List WireByte) (k : Nat) (b : WireByte) (s : State) : (sentFail bs k b s).hostIn = s.hostIn := rfl
@[simp] theorem sentFail_busyIn (bs : List WireByte) (k : Nat) (b : WireByte) (s : State) : (sentFail bs k b s).busyIn = s.busyIn := rfl
@[simp] theorem sentFail_timerIn (bs : List WireByte) (k : Nat) (b : WireByte) (s : State) : (sentFail bs k b s).timerIn = s.timerIn := rfl
@[simp] theorem sentFail_resets (bs : List WireByte) (k : Nat) (b : WireByte) (s : State) : (sentFail bs k b s).resets = s.resets := rfl

/-- A sequence whose exchanges all succeed (R101). -/
theorem sendAll_ok (bs : List WireByte) (s : State) (hf : s.faulted = false) (h : s.busOkFor bs.length = true) :
    sendAll bs s = sentOk bs s := by
  rw [State.busOkFor_iff] at h
  induction bs generalizing s with
  | nil => simp [sendAll, sentOk]
  | cons b bs ih =>
    have h0 : s.busOk 0 = true := h 0 (by simp)
    simp only [sendAll, byteXfer_ok b s h0]
    rw [if_neg (by simp [hf]), ih]
    · cases bs with
      | nil => simp [sentOk, Tape.tail, Tape.drop]
      | cons c cs => simp [sentOk, List.getLast?_cons]
    · exact hf
    · intro k hk
      have := h (k + 1) (by simp; omega)
      simpa [State.busOk] using this

/-- A sequence stopped by its first failing exchange: no later byte is sent (R104). -/
theorem sendAll_fail (bs : List WireByte) (s : State) (hf : s.faulted = false) (k : Nat) (hk : k < bs.length)
    (hok : ∀ j < k, s.busOk j = true) (hfail : s.busOk k = false) :
    sendAll bs s = raise .commFault (sentFail bs k bs[k] s) := by
  induction bs generalizing s k with
  | nil => simp at hk
  | cons b bs ih =>
    cases k with
    | zero =>
      simp [sendAll, byteXfer_fail b s hfail, sentFail]
      simp [raise, answer, Tape.tail, Tape.drop]
    | succ k =>
      have h0 : s.busOk 0 = true := hok 0 (by omega)
      simp only [sendAll, byteXfer_ok b s h0]
      have hk' : k < bs.length := by simpa using hk
      rw [if_neg (by simp [hf]), ih (k := k) (hk := hk')]
      · simp [sentFail]
      · exact hf
      · intro j hj
        have := hok (j + 1) (by omega)
        simpa [State.busOk] using this
      · simpa [State.busOk] using hfail

/-- Everything a sequence of bytes can do: all exchanged, or cut off at the first failure with COMM_FAULT raised. -/
theorem sendAll_cases (bs : List WireByte) (s : State) (hf : s.faulted = false) :
    (s.busOkFor bs.length = true ∧ sendAll bs s = sentOk bs s) ∨
      ∃ (k : Nat) (hk : k < bs.length), (∀ j < k, s.busOk j = true) ∧ s.busOk k = false ∧
        sendAll bs s = raise .commFault (sentFail bs k bs[k] s) := by
  rcases s.busOk_first_failure bs.length with h | ⟨k, hk, hok, hfail⟩
  · exact .inl ⟨h, sendAll_ok bs s hf h⟩
  · exact .inr ⟨k, hk, hok, hfail, sendAll_fail bs s hf k hk hok hfail⟩

end Sys2Proof.Machine
end

