-- ==== Sys2Proof/Laws/BitPacker.lean ====
section
/-!
SUPPORT. What each bit-packer operation can do, once (spec 41_bitpacker.md R142, R145, R149, R150), and the clip interval's
bounds as integers.
-/

namespace Sys2Proof.Machine

@[simp] theorem maxWord_toInt (a b : Word) : (maxWord a b).toInt = max a.toInt b.toInt := by
  unfold maxWord
  split <;> omega

@[simp] theorem minWord_toInt (a b : Word) : (minWord a b).toInt = min a.toInt b.toInt := by
  unfold minWord
  split <;> omega

theorem Interval.intersect_left (a b : Interval) : (a.intersect b).left.toInt = max a.left.toInt b.left.toInt := by
  simp [Interval.intersect]

theorem Interval.intersect_right (a b : Interval) : (a.intersect b).right.toInt = min a.right.toInt b.right.toInt := by
  simp [Interval.intersect]

theorem Interval.empty_iff (a : Interval) : a.empty = true ↔ a.right.toInt ≤ a.left.toInt := by
  simp [Interval.empty]

theorem Interval.mem_iff (a : Interval) (c : Int) : a.mem c = true ↔ a.left.toInt ≤ c ∧ c < a.right.toInt := by
  simp [Interval.mem]

/-- FILL after the common checks: one case per path (R145). -/
theorem fillBody_cases (col : Color) (clip span : Interval) (s : State) :
    ((clip.intersect span).empty = true ∧ fillBody col clip span s = answer readyResult s) ∨
      ((clip.intersect span).empty = false ∧ ¬ s.SpanFits (clip.intersect span) ∧
        fillBody col clip span s = raise .fillRange s) ∨
      ((clip.intersect span).empty = false ∧ s.SpanFits (clip.intersect span) ∧
        fillBody col clip span s = answer readyResult { s with
          rowBuf := fillSpan s.config.bitOrder (cbit s.config.whiteBit col) (clip.intersect span).left.toInt.toNat
            (clip.intersect span).right.toInt.toNat s.rowBuf }) := by
  unfold State.SpanFits
  cases he : (clip.intersect span).empty
  · by_cases hr : (clip.intersect span).left.toInt < 0 ∨
        (s.config.columns : Int) < (clip.intersect span).right.toInt
    · refine .inr (.inl ⟨rfl, by omega, ?_⟩)
      simp only [fillBody, he]
      simp [hr]
    · refine .inr (.inr ⟨rfl, by omega, ?_⟩)
      simp only [fillBody, he]
      simp [hr]
  · exact .inl ⟨rfl, by simp [fillBody, he]⟩

/-- ROW_LOAD after the common checks: one case per path (R149). -/
theorem rowLoadBody_cases (p : List Byte) (s : State) :
    (p.length = s.config.fillBytes ∧ rowLoadBody p s = answer readyResult { s with rowBuf := p }) ∨
      (p.length ≠ s.config.fillBytes ∧ rowLoadBody p s = raise .rowLoadLength s) := by
  by_cases h : p.length = s.config.fillBytes <;> simp [rowLoadBody, h]

end Sys2Proof.Machine
end

