-- ==== Sys2Proof/Laws/Framer.lean ====
section
/-!
SUPPORT. What each framer operation can do, once: one case per path of the spec's pseudocode (40_framer.md R109, R116 to
R118), in terms of the shared operations' lemmas.
-/

namespace Sys2Proof.Machine

theorem level_cases (l : Level) : l = 0#1 ∨ l = 1#1 := by
  revert l; decide

@[simp] theorem busOk_sampleBusy (s : State) (k : Nat) : (sampleBusy s).busOk k = s.busOk k := rfl
@[simp] theorem busOk_timerPoll (s : State) (k : Nat) : (timerPoll s).busOk k = s.busOk k := rfl
@[simp] theorem busOkFor_sampleBusy (s : State) (n : Nat) : (sampleBusy s).busOkFor n = s.busOkFor n := rfl
@[simp] theorem busOkFor_timerPoll (s : State) (n : Nat) : (timerPoll s).busOkFor n = s.busOkFor n := rfl

@[simp] theorem boosterSequence_length (c : Config) : (boosterSequence c).length = 5 := rfl
@[simp] theorem panelSequence_length (c : Config) : (panelSequence c).length = 2 := rfl
@[simp] theorem frameStartSequence_length (c : Config) : (frameStartSequence c).length = 1 := rfl
@[simp] theorem rowSequence_length (p : List Byte) : (rowSequence p).length = p.length := by simp [rowSequence]
@[simp] theorem frameEndSequence_length (c : Config) : (frameEndSequence c).length = c.planeBytes + 2 := by
  simp [frameEndSequence]

/-! ## INIT -/

/-- Once initialised, the loop has nothing left to do (R114). -/
theorem initLoop_initialized (n : Nat) (s : State) (h : s.initState = .initialized) : initLoop n s = s := by
  cases n <;> simp [initLoop, h]

/-- The transition out of RESETTING2: all five bytes, or COMM_FAULT at the first that fails (R112, R104). -/
theorem leaveResetting2_cases (s : State) (hf : s.faulted = false) :
    (s.busOkFor 5 = true ∧
        leaveResetting2 s = { sentOk (boosterSequence s.config) s with initState := .resetting3 }) ∨
      ∃ (k : Nat) (hk : k < (boosterSequence s.config).length), (∀ j < k, s.busOk j = true) ∧ s.busOk k = false ∧
        leaveResetting2 s =
          raise .commFault (sentFail (boosterSequence s.config) k (boosterSequence s.config)[k] s) := by
  rcases sendAll_cases (boosterSequence s.config) s hf with ⟨hok, he⟩ | ⟨k, hk, hok, hfail, he⟩
  · left
    refine ⟨hok, ?_⟩
    simp [leaveResetting2, he, hf]
  · right
    exact ⟨k, hk, hok, hfail, by simp [leaveResetting2, he]⟩

/-- The transition out of RESETTING3: both bytes, or COMM_FAULT at the first that fails (R113, R104). -/
theorem leaveResetting3_cases (s : State) (hf : s.faulted = false) :
    (s.busOkFor 2 = true ∧
        leaveResetting3 s = { sentOk (panelSequence s.config) s with initState := .initialized }) ∨
      ∃ (k : Nat) (hk : k < (panelSequence s.config).length), (∀ j < k, s.busOk j = true) ∧ s.busOk k = false ∧
        leaveResetting3 s = raise .commFault (sentFail (panelSequence s.config) k (panelSequence s.config)[k] s) := by
  rcases sendAll_cases (panelSequence s.config) s hf with ⟨hok, he⟩ | ⟨k, hk, hok, hfail, he⟩
  · left
    refine ⟨hok, ?_⟩
    simp [leaveResetting3, he, hf]
  · right
    exact ⟨k, hk, hok, hfail, by simp [leaveResetting3, he]⟩

/-- One turn of INIT's loop: it stops at a test that does not hold, goes on after a transition, or faults. -/
inductive InitTurn (s : State) : (stop : Option State) → (go : Option State) → Prop
  | ready (h : s.initState = .initialized) : InitTurn s (some s) none
  | busy0 (h : s.initState = .uninit) (hb : s.busyLevel = 0#1) : InitTurn s (some (sampleBusy s)) none
  | leave0 (h : s.initState = .uninit) (hb : s.busyLevel = 1#1) : InitTurn s none (some (leaveUninit (sampleBusy s)))
  | wait1 (h : s.initState = .resetting1) (ht : s.timerExpired = false) : InitTurn s (some (timerPoll s)) none
  | leave1 (h : s.initState = .resetting1) (ht : s.timerExpired = true) :
      InitTurn s none (some (leaveResetting1 (timerPoll s)))
  | wait2 (h : s.initState = .resetting2) (ht : s.timerExpired = false) : InitTurn s (some (timerPoll s)) none
  | leave2 (h : s.initState = .resetting2) (ht : s.timerExpired = true) (hok : s.busOkFor 5 = true) :
      InitTurn s none (some { sentOk (boosterSequence s.config) (timerPoll s) with initState := .resetting3 })
  | fail2 (h : s.initState = .resetting2) (ht : s.timerExpired = true) (k : Nat)
      (hk : k < (boosterSequence s.config).length) (hok : ∀ j < k, s.busOk j = true) (hfail : s.busOk k = false) :
      InitTurn s
        (some (raise .commFault (sentFail (boosterSequence s.config) k (boosterSequence s.config)[k] (timerPoll s)))) none
  | busy3 (h : s.initState = .resetting3) (hb : s.busyLevel = 0#1) : InitTurn s (some (sampleBusy s)) none
  | leave3 (h : s.initState = .resetting3) (hb : s.busyLevel = 1#1) (hok : s.busOkFor 2 = true) :
      InitTurn s none (some { sentOk (panelSequence s.config) (sampleBusy s) with initState := .initialized })
  | fail3 (h : s.initState = .resetting3) (hb : s.busyLevel = 1#1) (k : Nat)
      (hk : k < (panelSequence s.config).length) (hok : ∀ j < k, s.busOk j = true) (hfail : s.busOk k = false) :
      InitTurn s
        (some (raise .commFault (sentFail (panelSequence s.config) k (panelSequence s.config)[k] (sampleBusy s)))) none

/-- Every turn of INIT's loop is one of the turns above (R109). -/
theorem initLoop_turn (n : Nat) (s : State) (hf : s.faulted = false) :
    (∃ u, InitTurn s (some u) none ∧ initLoop (n + 1) s = u) ∨
      ∃ u, InitTurn s none (some u) ∧ u.faulted = false ∧ initLoop (n + 1) s = initLoop n u := by
  cases hs : s.initState with
  | initialized => exact .inl ⟨_, .ready hs, by simp [initLoop, hs]⟩
  | uninit =>
    rcases level_cases s.busyLevel with hb | hb
    · exact .inl ⟨_, .busy0 hs hb, by simp [initLoop, hs, hb]⟩
    · exact .inr ⟨_, .leave0 hs hb, by simpa [leaveUninit] using hf, by simp [initLoop, hs, hb]⟩
  | resetting1 =>
    cases ht : s.timerExpired
    · exact .inl ⟨_, .wait1 hs ht, by simp [initLoop, hs, ht]⟩
    · exact .inr ⟨_, .leave1 hs ht, by simpa [leaveResetting1] using hf, by simp [initLoop, hs, ht]⟩
  | resetting2 =>
    cases ht : s.timerExpired
    · exact .inl ⟨_, .wait2 hs ht, by simp [initLoop, hs, ht]⟩
    · rcases leaveResetting2_cases (timerPoll s) (by simpa using hf) with ⟨hok, he⟩ | ⟨k, hk, hok, hfail, he⟩
      · refine .inr ⟨_, .leave2 hs ht (by simpa using hok), by simpa using hf, ?_⟩
        simp [initLoop, hs, ht, he, hf]
      · refine .inl ⟨_, .fail2 hs ht k (by simpa using hk) (by simpa using hok) (by simpa using hfail), ?_⟩
        simp [initLoop, hs, ht, he]
  | resetting3 =>
    rcases level_cases s.busyLevel with hb | hb
    · exact .inl ⟨_, .busy3 hs hb, by simp [initLoop, hs, hb]⟩
    · rcases leaveResetting3_cases (sampleBusy s) (by simpa using hf) with ⟨hok, he⟩ | ⟨k, hk, hok, hfail, he⟩
      · refine .inr ⟨_, .leave3 hs hb (by simpa using hok), by simpa using hf, ?_⟩
        simp [initLoop, hs, hb, he, hf]
      · refine .inl ⟨_, .fail3 hs hb k (by simpa using hk) (by simpa using hok) (by simpa using hfail), ?_⟩
        simp [initLoop, hs, hb, he]

/-- What holds before INIT's loop, and is kept by each turn, holds after it. -/
theorem initLoop_induction (P : State → Prop)
    (stop : ∀ s u, s.faulted = false → P s → InitTurn s (some u) none → P u)
    (go : ∀ s u, s.faulted = false → P s → InitTurn s none (some u) → P u) (n : Nat) (s : State) (hf : s.faulted = false)
    (h : P s) : P (initLoop n s) := by
  induction n generalizing s with
  | zero => exact h
  | succ n ih =>
    rcases initLoop_turn n s hf with ⟨u, hu, he⟩ | ⟨u, hu, huf, he⟩
    · rw [he]; exact stop s u hf h hu
    · rw [he]; exact ih u huf (go s u hf h hu)

/-- INIT after the common checks: nothing in INITIALIZED, else its loop and then its answer (R109, R114). -/
theorem initBody_cases (s : State) :
    (s.initState = .initialized ∧ initBody s = answer readyResult s) ∨
      (s.initState ≠ .initialized ∧
        let u := initLoop s.config.initMaxTransitions s
        (u.faulted = true ∧ initBody s = u) ∨
          (u.faulted = false ∧ u.initState = .initialized ∧ initBody s = answer readyResult u) ∨
          (u.faulted = false ∧ u.initState ≠ .initialized ∧ initBody s = answer notReadyResult u)) := by
  by_cases h : s.initState = .initialized
  · exact .inl ⟨h, by simp [initBody, h]⟩
  · refine .inr ⟨h, ?_⟩
    simp only [initBody, if_neg h]
    generalize initLoop s.config.initMaxTransitions s = u
    cases hu : u.faulted
    · by_cases hi : u.initState = .initialized <;> simp [hi]
    · simp

/-! ## Frames -/

/-- START_FRAME after the common checks: one case per path (R116). -/
theorem startFrameBody_cases (s : State) (hf : s.faulted = false) :
    (s.initState ≠ .initialized ∧ startFrameBody s = raise .notInitialized s) ∨
      (s.initState = .initialized ∧ s.frameOpen = true ∧ startFrameBody s = raise .frameOpen s) ∨
      (s.initState = .initialized ∧ s.frameOpen = false ∧ s.busyLevel = 0#1 ∧
        startFrameBody s = answer notReadyResult (sampleBusy s)) ∨
      (s.initState = .initialized ∧ s.frameOpen = false ∧ s.busyLevel = 1#1 ∧ s.busOk 0 = true ∧
        startFrameBody s = answer readyResult
          { delay frameSettleMs (sentOk (frameStartSequence s.config) (sampleBusy s)) with
            frameOpen := true, rowsSent := 0 }) ∨
      (s.initState = .initialized ∧ s.frameOpen = false ∧ s.busyLevel = 1#1 ∧ s.busOk 0 = false ∧
        startFrameBody s =
          raise .commFault (sentFail (frameStartSequence s.config) 0 (cmdByte s.config.opDtm1) (sampleBusy s))) := by
  by_cases hi : s.initState = .initialized
  · cases ho : s.frameOpen
    · rcases level_cases s.busyLevel with hb | hb
      · exact .inr (.inr (.inl ⟨hi, rfl, hb, by simp [startFrameBody, hi, ho, hb]⟩))
      · cases hk : s.busOk 0
        · have he := sendAll_fail (frameStartSequence s.config) (sampleBusy s) (by simpa using hf) 0 (by simp) (by simp)
            (by simpa using hk)
          refine .inr (.inr (.inr (.inr ⟨hi, rfl, hb, rfl, ?_⟩)))
          simp only [startFrameBody, hi, ho, hb, he]
          simp [frameStartSequence]
        · have he := sendAll_ok (frameStartSequence s.config) (sampleBusy s) (by simpa using hf)
            (by simpa [State.busOkFor] using hk)
          refine .inr (.inr (.inr (.inl ⟨hi, rfl, hb, rfl, ?_⟩)))
          simp only [startFrameBody, hi, ho, hb, he]
          simp [hf]
    · exact .inr (.inl ⟨hi, rfl, by simp [startFrameBody, hi, ho]⟩)
  · exact .inl ⟨hi, by simp [startFrameBody, hi]⟩

/-- DRAW_ROW after the common checks: one case per path (R117). -/
theorem drawRowBody_cases (p : List Byte) (s : State) (hf : s.faulted = false) :
    (s.frameOpen = false ∧ drawRowBody p s = raise .noFrame s) ∨
      (s.frameOpen = true ∧ s.rowsSent = s.config.height ∧ drawRowBody p s = raise .rowOverflow s) ∨
      (s.frameOpen = true ∧ s.rowsSent ≠ s.config.height ∧ p.length < s.config.rowBytes ∧
        drawRowBody p s = raise .shortRow s) ∨
      (s.frameOpen = true ∧ s.rowsSent ≠ s.config.height ∧ s.config.rowBytes < p.length ∧
        drawRowBody p s = raise .longRow s) ∨
      (s.frameOpen = true ∧ s.rowsSent ≠ s.config.height ∧ p.length = s.config.rowBytes ∧ s.busOkFor p.length = true ∧
        drawRowBody p s = answer readyResult { sentOk (rowSequence p) s with rowsSent := s.rowsSent + 1 }) ∨
      (s.frameOpen = true ∧ s.rowsSent ≠ s.config.height ∧ p.length = s.config.rowBytes ∧
        ∃ (k : Nat) (hk : k < p.length), (∀ j < k, s.busOk j = true) ∧ s.busOk k = false ∧
          drawRowBody p s = raise .commFault (sentFail (rowSequence p) k (dataByte p[k]) s)) := by
  cases ho : s.frameOpen
  · exact .inl ⟨rfl, by simp [drawRowBody, ho]⟩
  by_cases hr : s.rowsSent = s.config.height
  · exact .inr (.inl ⟨rfl, hr, by simp [drawRowBody, ho, hr]⟩)
  by_cases hs : p.length < s.config.rowBytes
  · exact .inr (.inr (.inl ⟨rfl, hr, hs, by simp [drawRowBody, ho, hr, hs]⟩))
  by_cases hl : s.config.rowBytes < p.length
  · exact .inr (.inr (.inr (.inl ⟨rfl, hr, hl, by simp [drawRowBody, ho, hr, hs, hl]⟩)))
  have hp : p.length = s.config.rowBytes := by omega
  rcases sendAll_cases (rowSequence p) s hf with ⟨hok, he⟩ | ⟨k, hk, hok, hfail, he⟩
  · refine .inr (.inr (.inr (.inr (.inl ⟨rfl, hr, hp, by simpa using hok, ?_⟩))))
    simp [drawRowBody, ho, hr, hs, hl, he, hf]
  · refine .inr (.inr (.inr (.inr (.inr ⟨rfl, hr, hp, k, by simpa using hk, hok, hfail, ?_⟩))))
    have hk' : k < p.length := by simpa using hk
    have hb : (rowSequence p)[k] = dataByte p[k] := by simp [rowSequence]
    rw [hb] at he
    simp [drawRowBody, ho, hr, hs, hl, he]

/-- END_FRAME after the common checks: one case per path (R118). -/
theorem endFrameBody_cases (s : State) (hf : s.faulted = false) :
    (s.frameOpen = false ∧ endFrameBody s = raise .noFrame s) ∨
      (s.frameOpen = true ∧ s.rowsSent ≠ s.config.height ∧ endFrameBody s = raise .frameIncomplete s) ∨
      (s.frameOpen = true ∧ s.rowsSent = s.config.height ∧ s.busOkFor (s.config.planeBytes + 2) = true ∧
        endFrameBody s = answer readyResult
          { delay refreshGraceMs (sentOk (frameEndSequence s.config) s) with frameOpen := false, rowsSent := 0 }) ∨
      (s.frameOpen = true ∧ s.rowsSent = s.config.height ∧
        ∃ (k : Nat) (hk : k < (frameEndSequence s.config).length), (∀ j < k, s.busOk j = true) ∧ s.busOk k = false ∧
          endFrameBody s =
            raise .commFault (sentFail (frameEndSequence s.config) k (frameEndSequence s.config)[k] s)) := by
  cases ho : s.frameOpen
  · exact .inl ⟨rfl, by simp [endFrameBody, ho]⟩
  by_cases hr : s.rowsSent = s.config.height
  · rcases sendAll_cases (frameEndSequence s.config) s hf with ⟨hok, he⟩ | ⟨k, hk, hok, hfail, he⟩
    · refine .inr (.inr (.inl ⟨rfl, hr, by simpa using hok, ?_⟩))
      simp [endFrameBody, ho, hr, he, hf]
    · refine .inr (.inr (.inr ⟨rfl, hr, k, hk, hok, hfail, ?_⟩))
      simp [endFrameBody, ho, hr, he]
  · exact .inr (.inl ⟨rfl, hr, by simp [endFrameBody, ho, hr]⟩)

end Sys2Proof.Machine
end

