-- ==== Sys2Proof/Laws/PerInstr.lean ====
section
/-!
SUPPORT. Statements made for every operation as syntax, one lemma per constructor: the encoder's word0 is read back as the
operation's own row of the opcode map (spec 30_encoding.md R70, R76).
-/

namespace Sys2Proof.Laws.Word0

/-- The word0 of a well-formed operation decodes to its row. -/
def Statement (i : Instr) : Prop := i.wf = true → decodeWord0 (encode i).word0 = .ok i.opcode

/-- The word0 of a payload operation, for any LEN that fits: its opcode and its reserved fields read back. -/
theorem payload_word0 (o : Opcode) (n : Nat) (hn : n < 65536) :
    opcField (packWord0 o 0 n) = o.code ∧ packWord0 o 0 n &&& 0x0000FFFF#32 = o.pattern := by
  have key : (packWord0 o 0 n).toNat = o.code.toNat + n * 65536 := by
    have : o.code.toNat < 256 := o.code.isLt
    simp [packWord0]
    omega
  have hc : o.code.toNat < 256 := o.code.isLt
  constructor
  · apply BitVec.eq_of_toNat_eq
    simp only [opcField, BitVec.extractLsb'_toNat, key]
    omega
  · apply BitVec.eq_of_toNat_eq
    rw [BitVec.toNat_and, key]
    have hm : (0x0000FFFF#32 : BitVec 32).toNat = 2 ^ 16 - 1 := by decide
    rw [hm, Nat.and_two_pow_sub_one_eq_mod]
    simp [Opcode.pattern]
    omega

theorem init : Statement .init := fun _ => by decide
theorem startFrame : Statement .startFrame := fun _ => by decide

theorem drawRow (payload : List Byte) : Statement (.drawRow payload) := fun h => by
  have hn : payload.length < 65536 := by simpa [Instr.wf, payloadFits] using h
  obtain ⟨h1, h2⟩ := payload_word0 .drawRow payload.length hn
  have h3 : opcodeOf Opcode.drawRow.code = some .drawRow := by decide
  simp [decodeWord0, encode, h1, h3, Opcode.mask, h2, Instr.opcode]

theorem endFrame : Statement .endFrame := fun _ => by decide
theorem startPartial (left top right bottom : Word) : Statement (.startPartial left top right bottom) := fun _ => by
  have h : decodeWord0 (packWord0 .startPartial 0 0) = .ok .startPartial := by decide
  exact h

theorem drawPartialRow (payload : List Byte) : Statement (.drawPartialRow payload) := fun h => by
  have hn : payload.length < 65536 := by simpa [Instr.wf, payloadFits] using h
  obtain ⟨h1, h2⟩ := payload_word0 .drawPartialRow payload.length hn
  have h3 : opcodeOf Opcode.drawPartialRow.code = some .drawPartialRow := by decide
  simp [decodeWord0, encode, h1, h3, Opcode.mask, h2, Instr.opcode]

theorem endPartial : Statement .endPartial := fun _ => by decide

theorem fill (color : Color) (clipLeft clipRight left right : Word) :
    Statement (.fill color clipLeft clipRight left right) := fun _ => by
  have h : ∀ c : Color, decodeWord0 (packWord0 .fill c.field 0) = .ok .fill := by
    intro c
    cases c <;> decide
  exact h color

theorem clipIntersect (aLeft aRight bLeft bRight : Word) : Statement (.clipIntersect aLeft aRight bLeft bRight) :=
  fun _ => by
    have h : decodeWord0 (packWord0 .clipIntersect 0 0) = .ok .clipIntersect := by decide
    exact h

theorem rowLoad (payload : List Byte) : Statement (.rowLoad payload) := fun h => by
  have hn : payload.length < 65536 := by simpa [Instr.wf, payloadFits] using h
  obtain ⟨h1, h2⟩ := payload_word0 .rowLoad payload.length hn
  have h3 : opcodeOf Opcode.rowLoad.code = some .rowLoad := by decide
  simp [decodeWord0, encode, h1, h3, Opcode.mask, h2, Instr.opcode]

theorem rowRead : Statement .rowRead := fun _ => by decide

end Sys2Proof.Laws.Word0
end

