-- ==== Sys2Proof/Laws/Step.lean ====
section
/-!
SUPPORT. What an operation and a step can do, once: every operation is its body behind the common checks, and a step is
waiting, RESET, a faulted block's answer, a decode fault, or one operation. Also the inductions over them for invariants.
-/

namespace Sys2Proof.Machine

/-- The operation after the common checks (R175). -/
def opBody : Instr → State → State
  | .init => initBody
  | .startFrame => startFrameBody
  | .drawRow p => drawRowBody p
  | .endFrame => endFrameBody
  | .startPartial _ _ _ _ => refuse
  | .drawPartialRow _ => refuse
  | .endPartial => refuse
  | .fill c cl cr l r => fillBody c ⟨cl, cr⟩ ⟨l, r⟩
  | .clipIntersect al ar bl br => clipIntersectBody ⟨al, ar⟩ ⟨bl, br⟩
  | .rowLoad p => rowLoadBody p
  | .rowRead => rowReadBody

theorem exec_eq_guarded (i : Instr) (s : State) : exec i s = guarded (opBody i) s := by
  cases i <;> rfl

/-- A live block carries out the operation (R173). -/
theorem exec_live (i : Instr) (s : State) (h : s.Live) : exec i s = .next (opBody i s) := by
  rw [exec_eq_guarded, guarded_live _ _ h]

/-- The only next states of an operation: a faulted block's answer, or the operation's own effect. -/
theorem exec_next (i : Instr) (s t : State) (h : exec i s = .next t) :
    (s.faulted = true ∧ t = answerFaulted s) ∨ (s.Live ∧ t = opBody i s) := by
  rw [exec_eq_guarded] at h
  exact guarded_next _ _ _ h

/-- What the port makes of a descriptor, carried out (R173 steps 1 to 3). -/
theorem deliver_next (d : Descriptor) (u t : State)
    (h : (match deliver d u with | .done o => o | .run i v => exec i v) = .next t) :
    (u.faulted = true ∧ t = answerFaulted u) ∨
      (u.Live ∧ decode d = .error .reservedOpcode ∧ t = raise .reservedOpcode u) ∨
      (u.Live ∧ decode d = .error .reservedField ∧ t = raise .reservedField u) ∨
      (u.Live ∧ ∃ i, decode d = .ok i ∧ t = opBody i u) := by
  unfold deliver at h
  by_cases hf : u.faulted = true
  · rw [if_pos hf] at h
    cases h
    exact .inl ⟨hf, rfl⟩
  rw [if_neg hf] at h
  by_cases hr : u.refused = true
  · rw [if_pos hr] at h
    cases h
  rw [if_neg hr] at h
  have hl : u.Live := ⟨by simpa using hf, by simpa using hr⟩
  cases hd : decode d with
  | ok i =>
    simp only [hd, exec_live i u hl] at h
    cases h
    exact .inr (.inr (.inr ⟨hl, i, rfl, rfl⟩))
  | error e =>
    simp only [hd] at h
    cases e with
    | reservedOpcode => cases h; exact .inr (.inl ⟨hl, rfl, rfl⟩)
    | reservedField => cases h; exact .inr (.inr (.inl ⟨hl, rfl, rfl⟩))
    | wrongShape => cases h

/-- Everything a step to a next state can be. -/
theorem step_next (s t : State) (h : step s = .next t) :
    (s.hostIn = [] ∧ t = s) ∨
      (∃ rest, s.hostIn = .reset :: rest ∧ t = blockReset { s with hostIn := rest }) ∨
      ∃ d rest, s.hostIn = .issue d :: rest ∧
        ((s.faulted = true ∧ t = answerFaulted { s with hostIn := rest }) ∨
          (s.Live ∧ decode d = .error .reservedOpcode ∧ t = raise .reservedOpcode { s with hostIn := rest }) ∨
          (s.Live ∧ decode d = .error .reservedField ∧ t = raise .reservedField { s with hostIn := rest }) ∨
          (s.Live ∧ ∃ i, decode d = .ok i ∧ t = opBody i { s with hostIn := rest })) := by
  unfold step fetch at h
  cases hq : s.hostIn with
  | nil => rw [hq] at h; cases h; exact .inl ⟨rfl, rfl⟩
  | cons e rest =>
    rw [hq] at h
    cases e with
    | reset => cases h; exact .inr (.inl ⟨rest, rfl, rfl⟩)
    | issue d => exact .inr (.inr ⟨d, rest, rfl, deliver_next d { s with hostIn := rest } t h⟩)

/-- A property that the queue does not matter for, that a result does not matter for, that RESET and a decode fault keep, and
that every operation's body keeps in a live block, is kept by every step. -/
theorem step_keeps (P : State → Prop) (queue : ∀ s h, P s → P { s with hostIn := h })
    (result : ∀ s, s.faulted = true → P s → P (answerFaulted s)) (reset : ∀ s, P s → P (blockReset s))
    (decodeFault : ∀ s c, s.Live → c = .reservedOpcode ∨ c = .reservedField → P s → P (raise c s))
    (body : ∀ i s, s.Live → P s → P (opBody i s)) (s t : State) (h : P s) (hs : step s = .next t) : P t := by
  rcases step_next s t hs with ⟨_, rfl⟩ | ⟨rest, _, rfl⟩ | ⟨d, rest, _, hc⟩
  · exact h
  · exact reset _ (queue s rest h)
  · rcases hc with ⟨hf, rfl⟩ | ⟨hl, _, rfl⟩ | ⟨hl, _, rfl⟩ | ⟨hl, i, _, rfl⟩
    · exact result _ hf (queue s rest h)
    · exact decodeFault _ _ hl (.inl rfl) (queue s rest h)
    · exact decodeFault _ _ hl (.inr rfl) (queue s rest h)
    · exact body i _ hl (queue s rest h)

/-- A property kept by each turn of INIT's loop, and that a result does not matter for, is kept by INIT (R109). -/
theorem initBody_keeps (P : State → Prop) (result : ∀ r s, P s → P (answer r s))
    (stop : ∀ s u, s.faulted = false → P s → InitTurn s (some u) none → P u)
    (go : ∀ s u, s.faulted = false → P s → InitTurn s none (some u) → P u) (s : State) (hf : s.faulted = false) (h : P s) :
    P (initBody s) := by
  have hu := initLoop_induction P stop go s.config.initMaxTransitions s hf h
  rcases initBody_cases s with ⟨_, he⟩ | ⟨_, ⟨_, he⟩ | ⟨_, _, he⟩ | ⟨_, _, he⟩⟩ <;> rw [he]
  · exact result _ _ h
  · exact hu
  · exact result _ _ hu
  · exact result _ _ hu

/-- A property that a result does not matter for, and that is kept by each turn of INIT's loop, by a fault of a check, by a
refusal, by a busy sample, by each whole or cut-off byte sequence of the frame operations, and by a new content of the row
buffer, is kept by every operation's body. -/
theorem opBody_keeps (P : State → Prop) (result : ∀ r s, P s → P (answer r s))
    (stop : ∀ s u, s.faulted = false → P s → InitTurn s (some u) none → P u)
    (go : ∀ s u, s.faulted = false → P s → InitTurn s none (some u) → P u)
    (check : ∀ s c, s.faulted = false → c ≠ .commFault → c ≠ .none → P s → P (raise c s))
    (refusal : ∀ s, s.faulted = false → P s → P (refuse s))
    (sample : ∀ s, s.faulted = false → P s → P (sampleBusy s))
    (start : ∀ s, s.faulted = false → s.initState = .initialized → s.frameOpen = false → P s →
      P { delay frameSettleMs (sentOk (frameStartSequence s.config) s) with frameOpen := true, rowsSent := 0 } ∧
        P (raise .commFault (sentFail (frameStartSequence s.config) 0 (cmdByte s.config.opDtm1) s)))
    (row : ∀ s p, s.faulted = false → s.frameOpen = true → s.rowsSent ≠ s.config.height → p.length = s.config.rowBytes →
      P s → P { sentOk (rowSequence p) s with rowsSent := s.rowsSent + 1 } ∧
        ∀ k, (hk : k < p.length) → P (raise .commFault (sentFail (rowSequence p) k (dataByte p[k]) s)))
    (finish : ∀ s, s.faulted = false → s.frameOpen = true → s.rowsSent = s.config.height → P s →
      P { delay refreshGraceMs (sentOk (frameEndSequence s.config) s) with frameOpen := false, rowsSent := 0 } ∧
        ∀ k, (hk : k < (frameEndSequence s.config).length) →
          P (raise .commFault (sentFail (frameEndSequence s.config) k (frameEndSequence s.config)[k] s)))
    (buffer : ∀ s m, s.faulted = false → m.length = s.rowBuf.length ∨ m.length = s.config.fillBytes → P s →
      P { s with rowBuf := m })
    (i : Instr) (s : State) (hl : s.Live) (h : P s) : P (opBody i s) := by
  have hf := hl.1
  cases i with
  | init => exact initBody_keeps P result stop go s hf h
  | startFrame =>
    simp only [opBody]
    rcases startFrameBody_cases s hl.1 with ⟨h1, he⟩ | ⟨h1, h2, he⟩ | ⟨h1, h2, h3, he⟩ | ⟨h1, h2, h3, h4, he⟩ |
        ⟨h1, h2, h3, h4, he⟩ <;> rw [he]
    · exact check _ _ hf (by simp) (by simp) h
    · exact check _ _ hf (by simp) (by simp) h
    · exact result _ _ (sample _ hf h)
    · exact result _ _ (start (sampleBusy s) hf h1 h2 (sample _ hf h)).1
    · exact (start (sampleBusy s) hf h1 h2 (sample _ hf h)).2
  | drawRow p =>
    simp only [opBody]
    rcases drawRowBody_cases p s hl.1 with ⟨h1, he⟩ | ⟨h1, h2, he⟩ | ⟨h1, h2, h3, he⟩ | ⟨h1, h2, h3, he⟩ |
        ⟨h1, h2, h3, h4, he⟩ | ⟨h1, h2, h3, k, hk, hok, hfail, he⟩ <;> rw [he]
    iterate 4 exact check _ _ hf (by simp) (by simp) h
    · exact result _ _ (row _ _ hf h1 h2 h3 h).1
    · exact (row _ _ hf h1 h2 h3 h).2 k hk
  | endFrame =>
    simp only [opBody]
    rcases endFrameBody_cases s hl.1 with ⟨h1, he⟩ | ⟨h1, h2, he⟩ | ⟨h1, h2, h3, he⟩ | ⟨h1, h2, k, hk, hok, hfail, he⟩ <;>
      rw [he]
    iterate 2 exact check _ _ hf (by simp) (by simp) h
    · exact result _ _ (finish _ hf h1 h2 h).1
    · exact (finish _ hf h1 h2 h).2 k hk
  | startPartial => exact refusal _ hf h
  | drawPartialRow => exact refusal _ hf h
  | endPartial => exact refusal _ hf h
  | fill c cl cr l r =>
    simp only [opBody]
    rcases fillBody_cases c ⟨cl, cr⟩ ⟨l, r⟩ s with ⟨h1, he⟩ | ⟨h1, h2, he⟩ | ⟨h1, h2, he⟩ <;> rw [he]
    · exact result _ _ h
    · exact check _ _ hf (by simp) (by simp) h
    · exact result _ _ (buffer _ _ hf (.inl (by simp)) h)
  | clipIntersect => exact result _ _ h
  | rowLoad p =>
    simp only [opBody]
    rcases rowLoadBody_cases p s with ⟨h1, he⟩ | ⟨h1, he⟩ <;> rw [he]
    · exact result _ _ (buffer _ _ hf (.inr h1) h)
    · exact check _ _ hf (by simp) (by simp) h
  | rowRead => exact result _ _ h

end Sys2Proof.Machine
end

