-- ==== Sys2Proof/Laws/Timer.lean ====
section
/-!
SUPPORT. The TIMER agent's free answers (spec 10_state.md R40): a timer given by its waits expires again and again.
-/

namespace Sys2Proof.Machine

/-- The countdown runs down to its next expiry, and none comes before. -/
theorem countdown_run (wait : Nat → Nat) (n k r : Nat) (h : Config.countdown wait n = (k, r)) (j : Nat) (hj : j ≤ r) :
    Config.countdown wait (n + j) = (k, r - j) := by
  induction j with
  | zero => simpa using h
  | succ j ih =>
    have he := ih (by omega)
    obtain ⟨d, hd⟩ : ∃ d, r - j = d + 1 := ⟨r - j - 1, by omega⟩
    rw [← Nat.add_assoc, Config.countdown, he, hd]
    simp only
    congr 1
    omega

/-- Everything known of a timer given by its waits: from any poll on, an expiry comes (R40). -/
theorem expiryOf_fair (wait : Nat → Nat) : FairExpiry (Config.expiryOf wait) := by
  intro n
  refine ⟨n + (Config.countdown wait n).2, by omega, ?_⟩
  simp [Config.expiryOf, countdown_run wait n _ _ rfl _ (le_refl _)]

@[simp] theorem pollTimes_timerIn (n : Nat) (s : State) : (pollTimes n s).timerIn = s.timerIn.drop n := by
  induction n generalizing s with
  | zero => simp [pollTimes]
  | succ n ih => simp [pollTimes, ih]

end Sys2Proof.Machine
end

