-- ==== Sys2Proof/Tests/Slice0.lean ====
section
/-!
SUPPORT. The model's own tests. Expected values come from the spec: the encoding tables of 30_encoding.md and the vectors
of 95_test_vectors.md. Then the witnesses: for each obligation with hypotheses, states and operands that meet them.
-/

open Sys2Proof Sys2Proof.Machine

namespace Sys2Proof.Tests

/-! ## Well-formedness: one ill-formed term for each check (R70, R72: LEN has 16 bits) -/

theorem test_wf_drawRow_refuses : (Instr.drawRow (List.replicate 65536 0#8)).wf = false := by
  simp only [Instr.wf, payloadFits, List.length_replicate]; decide

theorem test_wf_drawPartialRow_refuses : (Instr.drawPartialRow (List.replicate 65536 0#8)).wf = false := by
  simp only [Instr.wf, payloadFits, List.length_replicate]; decide

theorem test_wf_rowLoad_refuses : (Instr.rowLoad (List.replicate 65536 0#8)).wf = false := by
  simp only [Instr.wf, payloadFits, List.length_replicate]; decide

theorem test_wf_longest_payload : (Instr.drawRow (List.replicate 65535 0#8)).wf = true := by
  simp only [Instr.wf, payloadFits, List.length_replicate]; decide

/-! ## Decoding: words written out from R70 and R73 -/

theorem test_decode_init : decode ⟨0x00000001#32, [], []⟩ = .ok .init := by decide

theorem test_decode_startFrame : decode ⟨0x00000002#32, [], []⟩ = .ok .startFrame := by decide

/-- LEN = 2 in bits 31..16. -/
theorem test_decode_drawRow : decode ⟨0x00020003#32, [], [0xA5#8, 0x5A#8]⟩ = .ok (.drawRow [0xA5#8, 0x5A#8]) := by decide

theorem test_decode_endFrame : decode ⟨0x00000004#32, [], []⟩ = .ok .endFrame := by decide

/-- V-D8: the operand order is left, top, right, bottom. -/
theorem test_decode_startPartial :
    decode ⟨0x00000005#32, [1#32, 2#32, 3#32, 4#32], []⟩ = .ok (.startPartial 1#32 2#32 3#32 4#32) := by decide

theorem test_decode_drawPartialRow : decode ⟨0x00010006#32, [], [0x00#8]⟩ = .ok (.drawPartialRow [0x00#8]) := by decide

theorem test_decode_endPartial : decode ⟨0x00000007#32, [], []⟩ = .ok .endPartial := by decide

/-- P3 op 2: C = 1 is WHITE; clip first, span second. -/
theorem test_decode_fill_white :
    decode ⟨0x00000110#32, [0#32, 0x190#32, 4#32, 0x10#32], []⟩ = .ok (.fill .white 0#32 0x190#32 4#32 0x10#32) := by decide

/-- P3 op 4: C = 0 is BLACK. -/
theorem test_decode_fill_black :
    decode ⟨0x00000010#32, [0#32, 0x190#32, 0x96#32, 0x98#32], []⟩ = .ok (.fill .black 0#32 0x190#32 0x96#32 0x98#32) := by
  decide

theorem test_decode_clipIntersect :
    decode ⟨0x00000011#32, [1#32, 2#32, 3#32, 4#32], []⟩ = .ok (.clipIntersect 1#32 2#32 3#32 4#32) := by decide

/-- V-L1. -/
theorem test_decode_rowLoad :
    decode ⟨0x00040012#32, [], [0x11#8, 0x22#8, 0x33#8, 0x44#8]⟩ = .ok (.rowLoad [0x11#8, 0x22#8, 0x33#8, 0x44#8]) := by
  decide

theorem test_decode_rowRead : decode ⟨0x00000013#32, [], []⟩ = .ok .rowRead := by decide

/-- V-D1 to V-D3, and the ends of the reserved ranges of R74. -/
theorem test_decode_reserved_opcodes :
    [0x00000000#32, 0x00000008#32, 0x0000000F#32, 0x00000014#32, 0x000000FF#32].all
      (fun w => decide (decode ⟨w, [], []⟩ = .error .reservedOpcode)) = true := by decide

/-- V-D4 to V-D7. -/
theorem test_decode_reserved_fields :
    [0x00000101#32, 0x00320001#32, 0x00000210#32, 0x00320103#32].all
      (fun w => decide (decode ⟨w, [], []⟩ = .error .reservedField)) = true := by decide

/-- A delivery of another shape than R77's is no operation. -/
theorem test_decode_wrong_shape :
    decode ⟨0x00000110#32, [0#32], []⟩ = .error .wrongShape ∧ decode ⟨0x00020003#32, [], [0x00#8]⟩ = .error .wrongShape := by
  decide

/-- No word0 belongs to two rows of the opcode map: two rows differ in a bit that both fix. -/
theorem test_opcode_rows_do_not_overlap :
    Opcode.all.Pairwise (fun a b => (a.pattern ^^^ b.pattern) &&& a.mask &&& b.mask ≠ 0#32) := by decide

/-- The masks and matches of opcode_table.json, in its order. -/
theorem test_opcode_table :
    Opcode.all.map (fun o => (o.mask, o.pattern)) =
      [(0xFFFFFFFF#32, 0x01#32), (0xFFFFFFFF#32, 0x02#32), (0x0000FFFF#32, 0x03#32), (0xFFFFFFFF#32, 0x04#32),
        (0xFFFFFFFF#32, 0x05#32), (0x0000FFFF#32, 0x06#32), (0xFFFFFFFF#32, 0x07#32), (0xFFFFFEFF#32, 0x10#32),
        (0xFFFFFFFF#32, 0x11#32), (0x0000FFFF#32, 0x12#32), (0xFFFFFFFF#32, 0x13#32)] := by decide

/-- The table's word for FILL with every other bit 0: BLACK, four operand words of 0. -/
theorem test_decode_table_word : decodeTableWord 32 0x10 = some (.fill .black 0#32 0#32 0#32 0#32) := by decide

/-- The table's word for DRAW_ROW with LEN 2 and payload bits given above it. -/
theorem test_decode_table_payload : decodeTableWord 48 0x5AA500020003 = some (.drawRow [0xA5#8, 0x5A#8]) := by decide

/-- R85's first FILL form. -/
theorem test_asm_fill : (Instr.fill .white 0#32 32#32 4#32 16#32).asm = "FILL.W [0, 32), [4, 16)" := by decide

/-! ## Helpers -/

/-- The default configuration but FILL_BYTES = 4, as the bit-packer vectors take it. -/
def packerConfig : Config := { Config.default with fillBytes := 4 }

/-- A panel of one byte a row and one row, to keep the tests small. -/
def tinyConfig : Config := { Config.default with width := 8, height := 1, fillBytes := 1 }

/-- A block after reset with the given row buffer and answers of the environment. -/
def block (c : Config) (row : List Byte) (busy : List Level) (timer : List Bool) (bus : List Bool) : State :=
  { State.resetWith c 0 [] ⟨busy, 0⟩ ⟨timer, 0⟩ ⟨bus.map (fun ok => ⟨ok, 0x5A#8⟩), 0⟩ with rowBuf := row }

/-- The tiny block, initialised. -/
def readyBlock (busy : List Level) (bus : List Bool) : State :=
  { block tinyConfig [0x3C#8] busy [] bus with initState := .initialized }

/-- The tiny block with a frame open and `n` rows sent. -/
def framedBlock (n : Nat) (bus : List Bool) : State :=
  { readyBlock [] bus with frameOpen := true, rowsSent := n }

/-- The block of the bit-packer vectors. -/
def packer (row : List Byte) : State := block packerConfig row [] [] []

/-- A block that SHORT_ROW has faulted. -/
def faultedBlock : State := { framedBlock 0 [] with faulted := true, faultCause := .shortRow }

/-- A refused block. -/
def refusedBlock : State := { readyBlock [] [] with refused := true }

/-- What a property says of the next state; false where there is none. -/
def nextIs (o : Host.Outcome State Fault Refusal) (p : State → Bool) : Bool :=
  match o with
  | .next t => p t
  | .fault _ => false
  | .refused _ => false

/-- The result word and the events of an operation from a block with an empty trace. -/
def answers (o : Host.Outcome State Fault Refusal) (word : Word) (events : List Event) : Bool :=
  nextIs o (fun t => t.lastResult.map OpResult.word == some word && t.trace == events)

/-! ## INIT -/

/-- P1. -/
theorem test_init_p1 :
    answers (exec .init (block tinyConfig [0x00#8] [1#1, 1#1] [true, true] (List.replicate 7 true))) 0x00000000#32
      [.busy 1#1, .rst 0#1, .timerStart 100, .timerPoll true, .rst 1#1, .timerStart 100, .timerPoll true,
        .byte 0#1 0x06#8 true, .byte 1#1 0x17#8 true, .byte 1#1 0x17#8 true, .byte 1#1 0x17#8 true, .byte 0#1 0x04#8 true,
        .busy 1#1, .byte 0#1 0x00#8 true, .byte 1#1 0x0F#8 true] = true := by decide

/-- V-I7: the bus fails at the second byte of RESETTING2's transition. -/
theorem test_init_comm_fault :
    let s := { block tinyConfig [0x00#8] [] [true] [true, false] with initState := .resetting2 }
    answers (exec .init s) 0x00000102#32 [.timerPoll true, .byte 0#1 0x06#8 true, .byte 1#1 0x17#8 false] = true ∧
      nextIs (exec .init s) (fun t => t.initState == .resetting2 && t.faulted) = true := by decide

/-! ## START_FRAME -/

/-- V-S3. -/
theorem test_startFrame_ready :
    let o := exec .startFrame (readyBlock [1#1] [true])
    answers o 0x00000000#32 [.busy 1#1, .byte 0#1 0x10#8 true, .delay 2] = true ∧
      nextIs o (fun t => t.frameOpen && t.rowsSent == 0) = true := by decide

/-- V-S6: the state check comes before the busy gate. -/
theorem test_startFrame_uninitialised :
    answers (exec .startFrame (block tinyConfig [0x00#8] [0#1] [] [])) 0x00001202#32 [] = true := by decide

/-! ## DRAW_ROW -/

/-- V-R1 on a row of two bytes: index order. -/
theorem test_drawRow_order :
    let s := { framedBlock 0 [true, true] with config := { tinyConfig with width := 16 } }
    answers (exec (.drawRow [0x00#8, 0x31#8]) s) 0x00000000#32 [.byte 1#1 0x00#8 true, .byte 1#1 0x31#8 true] = true := by
  decide

/-- V-R6: NO_FRAME comes before SHORT_ROW. -/
theorem test_drawRow_no_frame : answers (exec (.drawRow []) (readyBlock [] [])) 0x00001402#32 [] = true := by decide

/-! ## END_FRAME -/

/-- V-E1 on a plane of one byte. -/
theorem test_endFrame_plane :
    let o := exec .endFrame (framedBlock 1 [true, true, true])
    answers o 0x00000000#32 [.byte 0#1 0x13#8 true, .byte 1#1 0xFF#8 true, .byte 0#1 0x12#8 true, .delay 10] = true ∧
      nextIs o (fun t => !t.frameOpen && t.rowsSent == 0) = true := by decide

/-- V-E4: the bus fails at the plane's first byte, and the frame stays open. -/
theorem test_endFrame_comm_fault :
    let o := exec .endFrame (framedBlock 1 [true, false])
    answers o 0x00000102#32 [.byte 0#1 0x13#8 true, .byte 1#1 0xFF#8 false] = true ∧
      nextIs o (fun t => t.frameOpen && t.rowsSent == 1 && t.faulted) = true := by decide

/-! ## Partial refresh -/

/-- V-D8. -/
theorem test_startPartial_refused :
    let o := exec (.startPartial 0#32 0#32 8#32 8#32) (readyBlock [] [])
    answers o 0x00000003#32 [] = true ∧ nextIs o (fun t => t.refused) = true := by decide

/-- R120's example. -/
theorem test_drawPartialRow_refused :
    answers (exec (.drawPartialRow [0x00#8]) (readyBlock [] [])) 0x00000003#32 [] = true := by decide

/-- V-D12: a fault comes before a refusal. -/
theorem test_endPartial_on_fault :
    let o := exec .endPartial faultedBlock
    answers o 0x00001002#32 [] = true ∧ nextIs o (fun t => !t.refused) = true := by decide

/-! ## FILL -/

/-- V-B1 and V-B1b: a span over a byte boundary, in both bit orders. -/
theorem test_fill_span :
    nextIs (exec (.fill .white 0#32 32#32 4#32 16#32) (packer [0x00#8, 0x00#8, 0x00#8, 0x00#8]))
        (fun t => t.rowBuf == [0x0F#8, 0xFF#8, 0x00#8, 0x00#8]) = true ∧
      nextIs (exec (.fill .white 0#32 32#32 4#32 16#32)
          { packer [0x00#8, 0x00#8, 0x00#8, 0x00#8] with config := { packerConfig with bitOrder := .lsbFirst } })
        (fun t => t.rowBuf == [0xF0#8, 0xFF#8, 0x00#8, 0x00#8]) = true := by decide

/-- V-B3 (BLACK clears), V-B15 (the range fault) and V-B23 (no range check on an empty span). -/
theorem test_fill_black_and_range :
    nextIs (exec (.fill .black 0#32 32#32 3#32 29#32) (packer [0xFF#8, 0xFF#8, 0xFF#8, 0xFF#8]))
        (fun t => t.rowBuf == [0xE0#8, 0x00#8, 0x00#8, 0x07#8]) = true ∧
      answers (exec (.fill .white (-5#32) 8#32 (-5#32) 3#32) (packer [0x00#8, 0x00#8, 0x00#8, 0x00#8])) 0x00001702#32 []
        = true ∧
      answers (exec (.fill .white 100#32 200#32 300#32 400#32) (packer [0x00#8, 0x00#8, 0x00#8, 0x00#8])) 0x00000000#32 []
        = true := by decide

/-! ## CLIP_INTERSECT -/

/-- V-C3 and V-C6: inverted inputs, bounds as computed. -/
theorem test_clipIntersect_inverted :
    nextIs (exec (.clipIntersect 20#32 10#32 0#32 30#32) (packer []))
        (fun t => t.lastResult == some ⟨0x00010000#32, [0x14#32, 0x0A#32], []⟩) = true ∧
      nextIs (exec (.clipIntersect 0x7FFFFFFF#32 0x80000000#32 0x80000000#32 0x7FFFFFFF#32) (packer []))
        (fun t => t.lastResult == some ⟨0x00010000#32, [0x7FFFFFFF#32, 0x80000000#32], []⟩) = true := by decide

/-- V-C4: signed bounds. -/
theorem test_clipIntersect_signed :
    nextIs (exec (.clipIntersect (-3#32) 4#32 0#32 8#32) (packer []))
      (fun t => t.lastResult == some ⟨0x00000000#32, [0#32, 4#32], []⟩) = true := by decide

/-! ## ROW_LOAD and ROW_READ -/

/-- V-L1 and V-L2. -/
theorem test_rowLoad :
    nextIs (exec (.rowLoad [0x11#8, 0x22#8, 0x33#8, 0x44#8]) (packer [0x00#8, 0x00#8, 0x00#8, 0x00#8]))
        (fun t => t.rowBuf == [0x11#8, 0x22#8, 0x33#8, 0x44#8]) = true ∧
      answers (exec (.rowLoad [0x11#8, 0x22#8, 0x33#8]) (packer [0x00#8, 0x00#8, 0x00#8, 0x00#8])) 0x00001802#32 [] = true := by
  decide

/-- V-L4. -/
theorem test_rowRead :
    nextIs (exec .rowRead (packer [0x0F#8, 0xFF#8, 0x00#8, 0x00#8]))
      (fun t => t.lastResult == some ⟨0x00000000#32, [], [0x0F#8, 0xFF#8, 0x00#8, 0x00#8]⟩) = true := by decide

/-! ## Steps -/

/-- V-D10: a refused block decodes nothing. -/
theorem test_step_refused :
    step { refusedBlock with hostIn := [.issue ⟨0x00000008#32, [], []⟩] } = .fault .stuckAfterRefusal := by rfl

/-- V-D13: the first cause stays, and a reserved opcode is not decoded. -/
theorem test_step_faulted :
    answers (step { faultedBlock with hostIn := [.issue ⟨0x00000008#32, [], []⟩] }) 0x00001002#32 [] = true := by decide

/-- V-D14: RESET clears the fault. -/
theorem test_step_reset :
    nextIs (step { faultedBlock with hostIn := [.reset] })
      (fun t => !t.faulted && t.faultCause == .none && t.initState == .uninit) = true := by decide

/-- 95_test_vectors.md D1's word placed first after reset: it is the operation the first step runs. -/
theorem test_step_first_after_reset :
    nextIs (step (State.reset.withFetchWord 32 0x00000002)) (fun t => t.faulted && t.faultCause == .notInitialized) = true := by
  decide

/-- ROW_LOAD of FILL_BYTES = 50 zero bytes, first after reset. -/
theorem test_step_rowLoad_after_reset :
    nextIs (step (State.reset.withFetchWord 32 0x00320012)) (fun t => t.rowBuf == List.replicate 50 0x00#8) = true := by
  decide

/-! ## Pseudo-instructions (R86) -/

/-- V-I3: busy first, then alternating. -/
theorem test_initWait :
    nextIs (initWait 6 (block tinyConfig [0x00#8] [0#1, 1#1, 0#1, 1#1] [true, true] (List.replicate 7 true)))
      (fun t => t.initState == .initialized && t.results.map OpResult.word == [1#32, 1#32, 0#32]) = true := by decide

/-- P2's shape on the tiny panel: one busy retry, one row, the plane. -/
theorem test_sendFrame :
    nextIs (sendFrame 2 [[0x77#8]] (readyBlock [0#1, 1#1] (List.replicate 5 true)))
      (fun t => t.trace == [.busy 0#1, .busy 1#1, .byte 0#1 0x10#8 true, .delay 2, .byte 1#1 0x77#8 true,
        .byte 0#1 0x13#8 true, .byte 1#1 0xFF#8 true, .byte 0#1 0x12#8 true, .delay 10]) = true := by decide

/-! ## The timer (R40) -/

/-- A timer with 2, 0 and then 1 polls before its expiries, worked out by hand. -/
theorem test_timer_waits :
    (List.range 6).map (Config.expiryOf (fun k => [2, 0, 1].getD k 0)) = [false, false, true, true, false, true] := by decide

/-! ## Witnesses: the hypotheses of each obligation are met, each clause at a boundary -/

/-- `s` with `d` first at its port. -/
def delivered (d : Descriptor) (s : State) : State := { s with hostIn := [.issue d] }

theorem witness_DecodeOfEncode : (Instr.rowLoad []).wf = true ∧ (Instr.fill .white 0x80000000#32 0#32 0#32 0x7FFFFFFF#32).wf = true := by
  decide

theorem witness_EncodeOfDecoded : decode ⟨0x00000012#32, [], []⟩ = .ok (.rowLoad []) := by decide

/-- Each end of each reserved range. -/
theorem witness_ReservedOpcodeFaults :
    (readyBlock [] []).Live ∧
      [0x00000000#32, 0xFFFFFF08#32, 0x0000000F#32, 0x00000014#32, 0x000000FF#32].all
        (fun w => decide (reservedOpcodeByte (w.extractLsb' 0 8).toNat)) = true := by decide

/-- Each kind of reserved field, RSV at both of its ends. -/
theorem witness_ReservedFieldFaults :
    opcodeOf 0x10#8 = some .fill ∧ (readyBlock [] []).Live ∧
      [0x00000210#32, 0x00008010#32, 0x00000101#32, 0x00010001#32, 0x80000013#32].all
        (fun w => decide (¬ reservedOpcodeByte (w.extractLsb' 0 8).toNat ∧ reservedFieldNonzero w)) = true := by decide

theorem witness_StepRunsTheDecodedOperation :
    (delivered ⟨0x00000013#32, [], []⟩ (readyBlock [] [])).hostIn = .issue ⟨0x00000013#32, [], []⟩ :: [] ∧
      decode ⟨0x00000013#32, [], []⟩ = .ok .rowRead := by decide

theorem witness_FaultedBlockAnswersItsFault :
    (delivered ⟨0x00000000#32, [], []⟩ faultedBlock).faulted = true ∧
      (delivered ⟨0x00000000#32, [], []⟩ faultedBlock).hostIn = .issue ⟨0x00000000#32, [], []⟩ :: [] := by decide

/-- Both outcomes: an operation leaves the fault, RESET clears it. -/
theorem witness_OnlyResetClearsAFault :
    faultedBlock.faulted = true ∧
      (∃ t, step (delivered ⟨0x00000001#32, [], []⟩ faultedBlock) = .next t ∧ t.faulted = true) ∧
      ∃ t, step { faultedBlock with hostIn := [.reset] } = .next t ∧ t.faulted = false :=
  ⟨by decide, ⟨_, rfl, by decide⟩, ⟨_, rfl, by decide⟩⟩

/-- Every statement about a live block. -/
theorem witness_Live :
    (readyBlock [] []).Live ∧ (framedBlock 0 []).Live ∧ (packer []).Live ∧ (readyBlock [] []).initState = .initialized := by
  decide

theorem witness_RefusedBlockIsStuck :
    refusedBlock.faulted = false ∧ refusedBlock.refused = true ∧
      (∃ t, exec .endPartial (readyBlock [] []) = .next t ∧ (readyBlock [] []).refused = false ∧ t.refused = true) :=
  ⟨by decide, by decide, _, rfl, by decide, by decide⟩

/-- A READY with a payload, a NOT_READY, a FAULT and a REFUSED. -/
theorem witness_EveryOperationGivesOneResult :
    (∃ t, exec (.clipIntersect 0#32 5#32 5#32 10#32) (readyBlock [] []) = .next t ∧
        t.lastResult = some ⟨0x00010000#32, [5#32, 5#32], []⟩) ∧
      (∃ t, exec .rowRead (readyBlock [] []) = .next t ∧ t.lastResult = some ⟨0#32, [], [0x3C#8]⟩) ∧
      (∃ t, exec .startFrame (readyBlock [0#1] []) = .next t ∧ t.lastResult = some ⟨1#32, [], []⟩) ∧
      (∃ t, exec .endFrame (readyBlock [] []) = .next t ∧ t.lastResult = some ⟨0x1402#32, [], []⟩) ∧
      ∃ t, exec .endPartial (readyBlock [] []) = .next t ∧ t.lastResult = some ⟨3#32, [], []⟩ :=
  ⟨⟨_, rfl, by decide⟩, ⟨_, rfl, by decide⟩, ⟨_, rfl, by decide⟩, ⟨_, rfl, by decide⟩, ⟨_, rfl, by decide⟩⟩

theorem witness_CheckFaultsArePrecise :
    (framedBlock 1 []).Live ∧
      ∃ t, exec (.drawRow [0x00#8]) (framedBlock 1 []) = .next t ∧ t.faulted = true ∧ t.faultCause ≠ .commFault :=
  ⟨by decide, _, rfl, by decide, by decide⟩

/-- DRAW_ROW at its first byte; INIT at the first and at the last byte of its sequences. -/
theorem witness_CommFaultIsPrecise :
    (∃ t, exec (.drawRow [0x00#8]) (framedBlock 0 [false]) = .next t ∧ t.faulted = true ∧ t.faultCause = .commFault) ∧
      (∃ t, exec .init { readyBlock [] [false] with initState := .resetting2, timerIn := ⟨[true], 0⟩ } = .next t ∧
        t.faulted = true ∧ t.initState = .resetting2) ∧
      ∃ t, exec .init { readyBlock [1#1] [true, false] with initState := .resetting3 } = .next t ∧
        t.faulted = true ∧ t.initState = .resetting3 :=
  ⟨⟨_, rfl, by decide, by decide⟩, ⟨_, rfl, by decide, by decide⟩, ⟨_, rfl, by decide, by decide⟩⟩

/-- A sequence that goes out whole, one that fails at its first byte, one that fails at its last. -/
theorem witness_ByteSequence :
    (readyBlock [] [true, true]).faulted = false ∧ panelSequence tinyConfig ≠ [] ∧
      (readyBlock [] [true, true]).busOkFor (panelSequence tinyConfig).length = true ∧
      (panelSequence tinyConfig)[0]? = some (0#1, 0x00#8) ∧ (readyBlock [] [false]).busOkFor 0 = true ∧
      (readyBlock [] [false]).busOk 0 = false ∧
      (panelSequence tinyConfig)[1]? = some (1#1, 0x0F#8) ∧ (readyBlock [] [true, false]).busOkFor 1 = true ∧
      (readyBlock [] [true, false]).busOk 1 = false := by decide

/-- Both answers of each test of INIT, with the bytes of each transition all exchanged. -/
theorem witness_InitLeaves :
    (block tinyConfig [] [0#1] [] []).busyLevel = 0#1 ∧ (block tinyConfig [] [1#1] [] []).busyLevel = 1#1 ∧
      (block tinyConfig [] [] [] []).initState = .uninit ∧
      (block tinyConfig [] [] [false] []).timerExpired = false ∧ (block tinyConfig [] [] [true] []).timerExpired = true ∧
      { block tinyConfig [] [] [] [] with initState := .resetting1 }.initState = .resetting1 ∧
      { block tinyConfig [] [] [true] (List.replicate 5 true) with initState := .resetting2 }.busOkFor 5 = true ∧
      { block tinyConfig [] [1#1] [] [true, true] with initState := .resetting3 }.busOkFor 2 = true ∧
      (block tinyConfig [] [] [] []).faulted = false := by decide

/-- INIT that stays, that ends READY, that ends NOT_READY and that faults. -/
theorem witness_InitAnswers :
    (readyBlock [] []).initState = .initialized ∧ (block tinyConfig [] [0#1] [] []).Live ∧
      (initLoop 4 (block tinyConfig [] [0#1] [] [])).initState ≠ .initialized ∧
      (initLoop 4 { block tinyConfig [] [1#1] [] [true, true] with initState := .resetting3 }).initState = .initialized ∧
      (initLoop 4 { block tinyConfig [] [1#1] [] [false] with initState := .resetting3 }).faulted = true := by decide

theorem witness_InitFallsThrough :
    let s := block tinyConfig [0x00#8] [1#1, 1#1] [true, true] (List.replicate 7 true)
    s.Live ∧ s.initState = .uninit ∧ 4 ≤ s.config.initMaxTransitions ∧
      s.busyIn.nth Config.freeBusy 0 = 1#1 ∧ s.busyIn.nth Config.freeBusy 1 = 1#1 ∧
      s.timerIn.nth Config.freeExpiry 0 = true ∧ s.timerIn.nth Config.freeExpiry 1 = true ∧ s.busOkFor 7 = true := by decide

/-- Each sequence cut off at its first and at its last byte. -/
theorem witness_InitCommFault :
    let s (timer : List Bool) (busy : List Level) (bus : List Bool) := block tinyConfig [] busy timer bus
    (s [true] [] [false]).busOkFor 0 = true ∧ (s [true] [] [false]).busOk 0 = false ∧
      (s [true] [] [false]).timerExpired = true ∧ (0 : Nat) < 5 ∧
      (s [true] [] [true, true, true, true, false]).busOkFor 4 = true ∧
      (s [true] [] [true, true, true, true, false]).busOk 4 = false ∧ (4 : Nat) < 5 ∧
      (s [] [1#1] [true, false]).busOkFor 1 = true ∧ (s [] [1#1] [true, false]).busOk 1 = false ∧
      (s [] [1#1] [true, false]).busyLevel = 1#1 ∧ (1 : Nat) < 2 := by decide

theorem witness_InitStateOnlyMovesForward :
    (∃ t, exec .init (readyBlock [] []) = .next t ∧ t.initState = .initialized) ∧
      (∃ t, exec .rowRead (readyBlock [] []) = .next t ∧ t.initState = .initialized) ∧
      ∃ t, step { readyBlock [] [] with hostIn := [.reset] } = .next t ∧
        t.initState.rank < (readyBlock [] []).initState.rank :=
  ⟨⟨_, rfl, by decide⟩, ⟨_, rfl, by decide⟩, ⟨_, rfl, by decide⟩⟩

/-- The bound of R218 is reached. -/
theorem witness_InitWorkIsBounded :
    ∃ t, exec .init (block tinyConfig [0x00#8] [1#1, 1#1] [true, true] (List.replicate 7 true)) = .next t ∧
      (t.traceRev.filter Event.isDraw).length = 4 ∧ (t.traceRev.filterMap Event.wireByte).length = 7 :=
  ⟨_, rfl, by decide, by decide⟩

/-- The busy input alternates, busy first, and one INIT makes one transition. -/
theorem witness_InitWait :
    let s := { block { tinyConfig with initMaxTransitions := 1 } [0x00#8] [0#1, 1#1, 0#1, 1#1] [true, true]
      (List.replicate 7 true) with resets := 0 }
    s.Live ∧ 1 ≤ s.config.initMaxTransitions ∧
      (∀ k < 3, s.busyIn.nth Config.freeBusy k = 1#1 ∨ s.busyIn.nth Config.freeBusy (k + 1) = 1#1) ∧
      (∀ k < 2, s.timerIn.nth Config.freeExpiry k = true) ∧ s.busOkFor 7 = true := by decide

/-- No answer of the timer is laid out; the busy input alternates, busy first. -/
theorem witness_InitWaitEnds :
    let s := block { tinyConfig with initMaxTransitions := 1 } [0x00#8] [0#1, 1#1, 0#1, 1#1] [] (List.replicate 7 true)
    s.Live ∧ 1 ≤ s.config.initMaxTransitions ∧
      (∀ k < 3, s.busyIn.nth Config.freeBusy k = 1#1 ∨ s.busyIn.nth Config.freeBusy (k + 1) = 1#1) ∧
      s.busOkFor 7 = true := by decide

/-- A first and a last laid-out answer; a fair sequence that starts with a poll not expired, and its waits. -/
theorem witness_TimerAnswers :
    [false, true][0]? = some false ∧ [false, true][1]? = some true ∧ FairExpiry (fun n => n != 0) ∧
      Config.expiryOf (fun k => if k = 0 then 1 else 0) 0 = false ∧
      Config.expiryOf (fun k => if k = 0 then 1 else 0) 1 = true :=
  ⟨by decide, by decide, fun n => ⟨n + 1, by omega, by simp⟩, by decide, by decide⟩

/-- START_FRAME: each branch's condition. -/
theorem witness_StartFrame :
    (block tinyConfig [] [] [] []).initState ≠ .initialized ∧ (framedBlock 0 []).frameOpen = true ∧
      (readyBlock [0#1] []).busyLevel = 0#1 ∧ (readyBlock [1#1] [false]).busOk 0 = false ∧
      (readyBlock [1#1] [true]).busOk 0 = true ∧ (readyBlock [1#1] [true]).busyLevel = 1#1 := by decide

/-- DRAW_ROW: each clause, the row one byte short, one byte long and exact. -/
theorem witness_DrawRow :
    tinyConfig.Wf ∧ (readyBlock [] []).frameOpen = false ∧ (framedBlock 1 []).rowsSent = tinyConfig.height ∧
      (framedBlock 0 []).rowsSent ≠ tinyConfig.height ∧ ([] : List Byte).length < tinyConfig.rowBytes ∧
      tinyConfig.rowBytes < [0x00#8, 0x00#8].length ∧ [0x00#8].length = tinyConfig.rowBytes ∧
      (framedBlock 0 [true]).busOkFor tinyConfig.rowBytes = true ∧ (framedBlock 0 [true]).frameOpen = true ∧
      [0x00#8][0]? = some 0x00#8 ∧ (framedBlock 0 [false]).busOkFor 0 = true ∧ (framedBlock 0 [false]).busOk 0 = false := by
  decide

/-- END_FRAME: each clause, cut off at its first and at its last byte. -/
theorem witness_EndFrame :
    (readyBlock [] []).frameOpen = false ∧ (framedBlock 0 []).rowsSent ≠ tinyConfig.height ∧
      (framedBlock 1 []).frameOpen = true ∧ (framedBlock 1 []).rowsSent = tinyConfig.height ∧
      (framedBlock 1 [true, true, true]).busOkFor (tinyConfig.planeBytes + 2) = true ∧
      (framedBlock 1 [false]).busOkFor 0 = true ∧ (framedBlock 1 [false]).busOk 0 = false ∧
      2 < tinyConfig.planeBytes + 2 ∧ (framedBlock 1 [true, true, false]).busOkFor 2 = true ∧
      (framedBlock 1 [true, true, false]).busOk 2 = false := by decide

theorem witness_CompleteFrame :
    let s := readyBlock [1#1] (List.replicate 5 true)
    s.Live ∧ s.initState = .initialized ∧ s.frameOpen = false ∧ s.busyLevel = 1#1 ∧ [[0x77#8]].length = s.config.height ∧
      (∀ p ∈ [[0x77#8]], p.length = s.config.rowBytes) ∧
      s.busOkFor (s.config.rowBytes * s.config.height + s.config.planeBytes + 3) = true := by decide

/-- The panel of the last clause exists. -/
theorem witness_CompleteFrame_panel : Config.default.width = 400 ∧ Config.default.height = 300 ∧ Config.default.Wf := by
  decide

theorem witness_SendRow :
    let s := framedBlock 0 [true]
    s.Live ∧ s.config.Wf ∧ s.RowForm ∧ s.config.fillBytes = s.config.rowBytes ∧ s.frameOpen = true ∧
      s.rowsSent ≠ s.config.height ∧ s.busOkFor s.config.rowBytes = true := by decide

/-- One column, a whole byte, and a byte that is not the first. -/
theorem witness_ColumnMask :
    (0 ≤ 0 ∧ 0 / 8 = 0 / 8) ∧ (0 ≤ 7 ∧ 0 / 8 = 7 / 8) ∧ (8 ≤ 15 ∧ 8 / 8 = 15 / 8) := by decide

/-- FILL: an empty span, spans just outside either end, and the whole buffer. -/
theorem witness_Fill :
    let s := packer [0x00#8, 0x00#8, 0x00#8, 0x00#8]
    s.RowForm ∧ s.Live ∧ (Interval.intersect ⟨0#32, 32#32⟩ ⟨5#32, 5#32⟩).empty = true ∧
      ((Interval.intersect ⟨0#32, 40#32⟩ ⟨32#32, 33#32⟩).empty = false ∧
        ¬ s.SpanFits (Interval.intersect ⟨0#32, 40#32⟩ ⟨32#32, 33#32⟩)) ∧
      ((Interval.intersect ⟨-5#32, 8#32⟩ ⟨-1#32, 3#32⟩).empty = false ∧
        ¬ s.SpanFits (Interval.intersect ⟨-5#32, 8#32⟩ ⟨-1#32, 3#32⟩)) ∧
      ((Interval.intersect ⟨0#32, 32#32⟩ ⟨0#32, 32#32⟩).empty = false ∧
        s.SpanFits (Interval.intersect ⟨0#32, 32#32⟩ ⟨0#32, 32#32⟩)) := by decide

/-- Two fills that overlap in columns 8 to 11. -/
theorem witness_FillTwice :
    let s := packer [0x00#8, 0x00#8, 0x00#8, 0x00#8]
    s.Live ∧ s.RowForm ∧ s.SpanFits (Interval.intersect ⟨0#32, 32#32⟩ ⟨4#32, 12#32⟩) ∧
      s.SpanFits (Interval.intersect ⟨8#32, 32#32⟩ ⟨0#32, 32#32⟩) ∧ 11 < s.config.columns ∧
      (Interval.intersect ⟨8#32, 32#32⟩ ⟨0#32, 32#32⟩).mem 11 = true := by decide

theorem witness_RowClear :
    let s := packer [0x00#8, 0x00#8, 0x00#8, 0x00#8]
    s.Live ∧ s.RowForm ∧ s.config.Wf ∧ s.config.columns < 2 ^ 31 := 
  ⟨by decide, by decide, by decide, by norm_num [packer, block, State.resetWith, packerConfig, Config.columns]⟩

/-- ROW_LOAD: the exact length, one byte less and one more. -/
theorem witness_RowLoad :
    [0x00#8].length = tinyConfig.fillBytes ∧ ([] : List Byte).length ≠ tinyConfig.fillBytes ∧
      [0x00#8, 0x00#8].length ≠ tinyConfig.fillBytes := by decide

theorem witness_FramerLeavesTheRestAlone :
    (∃ t, exec .init (block tinyConfig [0x00#8] [0#1] [] []) = .next t ∧ t.faulted = false) ∧
      (∃ t, exec .startFrame (readyBlock [1#1] [true]) = .next t ∧ t.frameOpen = true) ∧
      (∃ t, exec (.drawRow [0x00#8]) (framedBlock 0 [true]) = .next t ∧ t.rowsSent = 1) ∧
      (∃ t, exec .endFrame (framedBlock 1 [true, true, true]) = .next t ∧ t.frameOpen = false) ∧
      ∃ t, exec .endFrame faultedBlock = .next t ∧ t.faulted = true :=
  ⟨⟨_, rfl, by decide⟩, ⟨_, rfl, by decide⟩, ⟨_, rfl, by decide⟩, ⟨_, rfl, by decide⟩, ⟨_, rfl, by decide⟩⟩

theorem witness_BitPackerLeavesTheRestAlone :
    (∃ t, exec (.fill .white 0#32 32#32 8#32 16#32) (packer [0x00#8, 0x00#8, 0x00#8, 0x00#8]) = .next t ∧
        t.rowBuf = [0x00#8, 0xFF#8, 0x00#8, 0x00#8]) ∧
      (∃ t, exec (.clipIntersect 0#32 0#32 0#32 0#32) (packer []) = .next t ∧ t.faulted = false) ∧
      (∃ t, exec (.rowLoad [0x01#8]) (readyBlock [] []) = .next t ∧ t.rowBuf = [0x01#8]) ∧
      (∃ t, exec (.rowLoad []) (readyBlock [] []) = .next t ∧ t.faulted = true) ∧
      ∃ t, exec .rowRead (readyBlock [] []) = .next t ∧ t.faulted = false :=
  ⟨⟨_, rfl, by decide⟩, ⟨_, rfl, by decide⟩, ⟨_, rfl, by decide⟩, ⟨_, rfl, by decide⟩, ⟨_, rfl, by decide⟩⟩

theorem witness_BlockReset : { refusedBlock with hostIn := [.reset] }.hostIn = .reset :: [] := by decide

/-- A state with every invariant that a step takes to a next state: waiting, an operation and RESET. -/
theorem witness_StepKeeps :
    let s := block tinyConfig [0x00#8] [] [] []
    (s.RowForm ∧ s.FrameForm ∧ s.FaultForm ∧ s.CommForm ∧ s.LineForm ∧ s.InitForm ∧ s.CommandForm) ∧
      (∃ t, step s = .next t ∧ t.trace = []) ∧
      (∃ t, step (delivered ⟨0x00000013#32, [], []⟩ s) = .next t ∧ t.results = [⟨0#32, [], [0x00#8]⟩]) ∧
      ∃ t, step { s with hostIn := [.reset] } = .next t ∧ t.initState = .uninit :=
  ⟨⟨by decide, by decide, by decide, by decide, by decide, by decide, fun _ hb => by cases hb⟩, ⟨_, rfl, by decide⟩,
    ⟨_, rfl, by decide⟩, ⟨_, rfl, by decide⟩⟩

/-- The wire's invariant at a state whose first operation puts a byte on the wire. -/
theorem witness_WireForm :
    let s := { readyBlock [1#1] [true] with
      traceRev := [.byte 1#1 0x0F#8 true, .byte 0#1 0x00#8 true, .byte 0#1 0x04#8 true, .byte 1#1 0x17#8 true,
        .byte 1#1 0x17#8 true, .byte 1#1 0x17#8 true, .byte 0#1 0x06#8 true] }
    s.WireForm ∧ ∃ t, step (delivered ⟨0x00000002#32, [], []⟩ s) = .next t ∧ t.frameOpen = true :=
  ⟨⟨fun _ => WireShape.initialized, fun h => by cases h⟩, ⟨_, rfl, by decide⟩⟩

end Sys2Proof.Tests
end

section
/-!
PROOFS. What every step keeps of the state (spec 10_state.md section 2): the configuration, the row buffer's form, the
frame's form, the lines and the timer, and the record of the fault.
-/

namespace Sys2Proof.Machine

/-! ## Turns of INIT's loop -/

/-- A turn of INIT writes neither the configuration, nor the frame's state, nor the refusal, nor the row buffer (R109). -/
theorem InitTurn.unchanged {s : State} {stop go : Option State} (turn : InitTurn s stop go) :
    ∀ u, stop = some u ∨ go = some u →
      u.config = s.config ∧ u.frameOpen = s.frameOpen ∧ u.rowsSent = s.rowsSent ∧ u.refused = s.refused ∧
        u.rowBuf = s.rowBuf := by
  cases turn <;> rintro u (h | h) <;> cases h <;> exact ⟨rfl, rfl, rfl, rfl, rfl⟩

/-- A turn never takes init_state back (R25). -/
theorem InitTurn.rank_le {s : State} {stop go : Option State} (turn : InitTurn s stop go) :
    ∀ u, stop = some u ∨ go = some u → s.initState.rank ≤ u.initState.rank := by
  cases turn <;> rintro u (h | h) <;> cases h
  case leave0 hs _ | leave1 hs _ | leave2 hs _ _ | leave3 hs _ _ => rw [hs]; exact Nat.le_succ _
  all_goals exact le_refl _

/-- In INITIALIZED a turn does nothing (R114). -/
theorem InitTurn.eq_of_initialized {s : State} {stop go : Option State} (turn : InitTurn s stop go)
    (hs : s.initState = .initialized) : ∀ u, stop = some u ∨ go = some u → u = s := by
  cases turn <;> rintro u (h | h) <;> cases h
  case ready.inl => rfl
  all_goals simp_all

/-! ## Configuration, row buffer, frame -/

/-- Settles O46: no operation and no RESET writes the configuration. -/
theorem noStepWritesTheConfiguration : Obligations.NoStepWritesTheConfiguration := by
  intro s t hs
  refine step_keeps (fun u => u.config = s.config) (queue := fun _ _ h => h) (result := fun _ _ h => h)
    (reset := fun _ h => h) (decodeFault := fun _ _ _ _ h => h) (body := ?_) s t rfl hs
  exact opBody_keeps (fun u => u.config = s.config)
    (result := fun _ _ h => h)
    (stop := fun _ u _ h turn => (turn.unchanged u (.inl rfl)).1.trans h)
    (go := fun _ u _ h turn => (turn.unchanged u (.inr rfl)).1.trans h)
    (check := fun _ _ _ _ _ h => h)
    (refusal := fun _ _ h => h)
    (sample := fun _ _ h => h)
    (start := fun _ _ _ _ h => ⟨h, h⟩)
    (row := fun _ _ _ _ _ _ h => ⟨h, fun _ _ => h⟩)
    (finish := fun _ _ _ _ h => ⟨h, fun _ _ => h⟩)
    (buffer := fun _ _ _ _ h => h)

theorem InitTurn.rowForm {s : State} {stop go : Option State} (turn : InitTurn s stop go) (h : s.RowForm) :
    ∀ u, stop = some u ∨ go = some u → u.RowForm := by
  intro u hu
  obtain ⟨hconfig, _, _, _, hbuf⟩ := turn.unchanged u hu
  simpa [State.RowForm, hconfig, hbuf] using h

/-- Settles O49: only FILL and ROW_LOAD store to the row buffer, and each stores a buffer of the same length. -/
theorem stepKeepsTheRowForm : Obligations.StepKeepsTheRowForm := by
  intro s t h hs
  refine step_keeps State.RowForm (queue := fun _ _ h => h) (result := fun _ _ h => h)
    (reset := fun _ _ => freeRow_wf _ _) (decodeFault := fun _ _ _ _ h => h) (body := ?_) s t h hs
  exact opBody_keeps State.RowForm
    (result := fun _ _ h => h)
    (stop := fun _ u _ h turn => turn.rowForm h u (.inl rfl))
    (go := fun _ u _ h turn => turn.rowForm h u (.inr rfl))
    (check := fun _ _ _ _ _ h => h)
    (refusal := fun _ _ h => h)
    (sample := fun _ _ h => h)
    (start := fun _ _ _ _ h => ⟨h, h⟩)
    (row := fun _ _ _ _ _ _ h => ⟨h, fun _ _ => h⟩)
    (finish := fun _ _ _ _ h => ⟨h, fun _ _ => h⟩)
    (buffer := fun s m _ hm h => by
      have hlen : s.rowBuf.length = s.config.fillBytes := (Memory.wf_iff _ _).1 h
      exact (Memory.wf_iff _ _).2 (hm.elim (·.trans hlen) id))

theorem InitTurn.frameForm {s : State} {stop go : Option State} (turn : InitTurn s stop go) (h : s.FrameForm) :
    ∀ u, stop = some u ∨ go = some u → u.FrameForm := by
  intro u hu
  obtain ⟨hrows, hclosed, hopen⟩ := h
  obtain ⟨hconfig, hframe, hsent, _, _⟩ := turn.unchanged u hu
  refine ⟨by rwa [hsent, hconfig], by rwa [hframe, hsent], fun ho => ?_⟩
  have hs : s.initState = .initialized := hopen (hframe ▸ ho)
  rw [turn.eq_of_initialized hs u hu, hs]

/-- Settles O50: a frame is opened only in INITIALIZED with rows_sent 0, DRAW_ROW counts up only below HEIGHT, END_FRAME
brings both back, and INIT does nothing while a frame is open. -/
theorem stepKeepsTheFrameForm : Obligations.StepKeepsTheFrameForm := by
  intro s t h hs
  refine step_keeps State.FrameForm (queue := fun _ _ h => h) (result := fun _ _ h => h)
    (reset := fun _ _ => by simp [State.FrameForm]) (decodeFault := fun _ _ _ _ h => h) (body := ?_) s t h hs
  exact opBody_keeps State.FrameForm
    (result := fun _ _ h => h)
    (stop := fun _ u _ h turn => turn.frameForm h u (.inl rfl))
    (go := fun _ u _ h turn => turn.frameForm h u (.inr rfl))
    (check := fun _ _ _ _ _ h => h)
    (refusal := fun _ _ h => h)
    (sample := fun _ _ h => h)
    (start := fun _ _ hi _ h => ⟨⟨Nat.zero_le _, fun _ => rfl, fun _ => hi⟩, h⟩)
    (row := fun _ _ _ ho hr _ ⟨hrows, hclosed, hopen⟩ =>
      ⟨⟨Nat.lt_of_le_of_ne hrows hr, by simp [ho], hopen⟩, fun _ _ => ⟨hrows, hclosed, hopen⟩⟩)
    (finish := fun _ _ _ _ h => ⟨⟨Nat.zero_le _, fun _ => rfl, by simp⟩, fun _ _ => h⟩)
    (buffer := fun _ _ _ _ h => h)

/-! ## Lines and timer -/

/-- The last exchange of a sequence closes its chip-select window; an empty sequence opens none (R102). -/
theorem sentOk_csOut (bs : List WireByte) (s : State) (h : s.csOut = .deasserted) : (sentOk bs s).csOut = .deasserted := by
  simp [sentOk, h]

/-- Each action of INIT drives RST_OUT and starts the timer with the state it enters, and a poll that answers expired stops
the timer before RESETTING2 is left (R110 to R112). -/
theorem InitTurn.lineForm {s : State} {stop go : Option State} (turn : InitTurn s stop go) (h : s.LineForm) :
    ∀ u, stop = some u ∨ go = some u → u.LineForm := by
  obtain ⟨hcs, hrst, htimer⟩ := h
  cases turn <;> rintro u (hu | hu) <;> cases hu
  case ready.inl | busy0.inl | busy3.inl => exact ⟨hcs, hrst, htimer⟩
  case wait1.inl ht | wait2.inl ht => exact ⟨hcs, hrst, by simpa [ht] using htimer⟩
  case fail2.inl ht _ _ _ _ => exact ⟨rfl, hrst, by simp [ht]⟩
  case fail3.inl => exact ⟨rfl, hrst, htimer⟩
  case leave0.inr => exact ⟨hcs, by simp [leaveUninit], by simp [leaveUninit, resetLowMs]⟩
  case leave1.inr => exact ⟨hcs, by simp [leaveResetting1], by simp [leaveResetting1, resetHighMs]⟩
  case leave2.inr hs ht _ =>
    exact ⟨sentOk_csOut (boosterSequence s.config) (timerPoll s) hcs, by simpa [hs] using hrst, by simp [ht]⟩
  case leave3.inr hs _ _ =>
    exact ⟨sentOk_csOut (panelSequence s.config) (sampleBusy s) hcs, by simpa [hs] using hrst, by simpa [hs] using htimer⟩

/-- Settles O52: every byte sequence ends with CS_OUT deasserted, and only INIT drives RST_OUT or touches the timer. -/
theorem stepKeepsTheLineForm : Obligations.StepKeepsTheLineForm := by
  intro s t h hs
  refine step_keeps State.LineForm (queue := fun _ _ h => h) (result := fun _ _ h => h)
    (reset := fun _ _ => by simp [State.LineForm]) (decodeFault := fun _ _ _ _ h => h) (body := ?_) s t h hs
  exact opBody_keeps State.LineForm
    (result := fun _ _ h => h)
    (stop := fun _ u _ h turn => turn.lineForm h u (.inl rfl))
    (go := fun _ u _ h turn => turn.lineForm h u (.inr rfl))
    (check := fun _ _ _ _ _ h => h)
    (refusal := fun _ _ h => h)
    (sample := fun _ _ h => h)
    (start := fun s _ _ _ h => ⟨⟨sentOk_csOut (frameStartSequence s.config) s h.1, h.2⟩, ⟨rfl, h.2⟩⟩)
    (row := fun s p _ _ _ _ h => ⟨⟨sentOk_csOut (rowSequence p) s h.1, h.2⟩, fun _ _ => ⟨rfl, h.2⟩⟩)
    (finish := fun s _ _ _ h => ⟨⟨sentOk_csOut (frameEndSequence s.config) s h.1, h.2⟩, fun _ _ => ⟨rfl, h.2⟩⟩)
    (buffer := fun _ _ _ _ h => h)

/-! ## The record of a fault -/

/-- Both forms of the fault's record: the cause tells whether there is a fault, and the trace whether it is COMM_FAULT
(R28, R104, R172). -/
def State.FaultRecord (s : State) : Prop := s.FaultForm ∧ s.CommForm

/-- Without a fault the record says that there is no cause and no failed exchange. -/
theorem State.faultRecord_iff_of_not_faulted {s : State} (hf : s.faulted = false) :
    s.FaultRecord ↔ s.faultCause = .none ∧ s.traceRev.all (fun e => !e.fails) = true := by
  have hcause : s.FaultForm ↔ s.faultCause = .none := by simp [State.FaultForm, hf]
  rw [State.FaultRecord, hcause]
  refine and_congr_right fun hc => ?_
  cases htr : s.traceRev <;> simp [State.CommForm, htr, hc, and_comm]

/-- Events that are no failed exchange keep the record of a block without a fault. -/
theorem State.FaultRecord.append {s u : State} (h : s.FaultRecord) (hs : s.faulted = false) (hu : u.faulted = false)
    (hc : u.faultCause = s.faultCause) (es : List Event) (htr : u.traceRev = es ++ s.traceRev)
    (hes : es.all (fun e => !e.fails) = true) : u.FaultRecord := by
  obtain ⟨hnone, hall⟩ := (State.faultRecord_iff_of_not_faulted hs).1 h
  exact (State.faultRecord_iff_of_not_faulted hu).2
    ⟨hc.trans hnone, by rw [htr, List.all_append, hes, hall]; rfl⟩

theorem okEvents_not_fail (bs : List WireByte) : (bs.map okEvent).reverse.all (fun e => !e.fails) = true := by
  simp [okEvent, Event.fails]

theorem State.FaultRecord.sentOk {s : State} (h : s.FaultRecord) (hs : s.faulted = false) (bs : List WireByte) :
    (sentOk bs s).FaultRecord :=
  h.append hs hs rfl _ rfl (okEvents_not_fail bs)

/-- A fault of a check or of the decoder records a cause that is not COMM_FAULT, and no event (R177). -/
theorem State.FaultRecord.raise {s : State} (h : s.FaultRecord) (hs : s.faulted = false) {c : Cause}
    (hcomm : c ≠ .commFault) (hnone : c ≠ .none) : (raise c s).FaultRecord := by
  obtain ⟨_, hall⟩ := (State.faultRecord_iff_of_not_faulted hs).1 h
  refine ⟨by simp [State.FaultForm, hnone], ?_⟩
  cases htr : s.traceRev <;> simp_all [State.CommForm]

/-- A sequence cut off leaves the failing byte as the newest event and COMM_FAULT as the cause (R104). -/
theorem State.FaultRecord.raise_sentFail {s : State} (h : s.FaultRecord) (hs : s.faulted = false) (bs : List WireByte)
    (k : Nat) (b : WireByte) : (Machine.raise .commFault (sentFail bs k b s)).FaultRecord := by
  obtain ⟨_, hall⟩ := (State.faultRecord_iff_of_not_faulted hs).1 h
  refine ⟨by simp [State.FaultForm], ?_, ?_⟩
  · show List.all (((bs.take k).map okEvent).reverse ++ s.traceRev) _ = true
    rw [List.all_append, okEvents_not_fail, hall]; rfl
  · simp [sentFail, Event.fails]

theorem State.FaultRecord.sampleBusy {s : State} (h : s.FaultRecord) (hs : s.faulted = false) :
    (sampleBusy s).FaultRecord :=
  h.append hs hs rfl [.busy s.busyLevel] rfl rfl

theorem State.FaultRecord.timerPoll {s : State} (h : s.FaultRecord) (hs : s.faulted = false) :
    (timerPoll s).FaultRecord :=
  h.append hs hs rfl [.timerPoll s.timerExpired] rfl rfl

theorem InitTurn.faultRecord {s : State} {stop go : Option State} (turn : InitTurn s stop go) (hf : s.faulted = false)
    (h : s.FaultRecord) : ∀ u, stop = some u ∨ go = some u → u.FaultRecord := by
  have hbusy := h.sampleBusy hf
  have hpoll := h.timerPoll hf
  cases turn <;> rintro u (hu | hu) <;> cases hu
  case ready.inl => exact h
  case busy0.inl | busy3.inl => exact hbusy
  case wait1.inl | wait2.inl => exact hpoll
  case leave0.inr => exact hbusy.append hf hf rfl [.timerStart resetLowMs, .rst 0#1] rfl rfl
  case leave1.inr => exact hpoll.append hf hf rfl [.timerStart resetHighMs, .rst 1#1] rfl rfl
  case leave2.inr => exact hpoll.sentOk hf _
  case fail2.inl => exact hpoll.raise_sentFail hf _ _ _
  case leave3.inr => exact hbusy.sentOk hf _
  case fail3.inl => exact hbusy.raise_sentFail hf _ _ _

/-- Settles O51: `raise` is the one place a cause is recorded, and it records COMM_FAULT right after the event of a failed
exchange; a faulted block appends no event. -/
theorem stepKeepsTheFaultRecord : Obligations.StepKeepsTheFaultRecord := by
  intro s t hfault hcomm hs
  refine step_keeps State.FaultRecord (queue := fun _ _ h => h) (result := fun _ _ h => h)
    (reset := fun _ _ => by simp [State.FaultRecord, State.FaultForm, State.CommForm])
    (decodeFault := fun _ _ hl hc h => h.raise hl.1 (by rcases hc with rfl | rfl <;> decide)
      (by rcases hc with rfl | rfl <;> decide)) (body := ?_) s t ⟨hfault, hcomm⟩ hs
  exact opBody_keeps State.FaultRecord
    (result := fun _ _ h => h)
    (stop := fun _ u hf h turn => turn.faultRecord hf h u (.inl rfl))
    (go := fun _ u hf h turn => turn.faultRecord hf h u (.inr rfl))
    (check := fun _ _ hf hcomm hnone h => h.raise hf hcomm hnone)
    (refusal := fun _ _ h => h)
    (sample := fun _ hf h => h.sampleBusy hf)
    (start := fun s hf _ _ h =>
      ⟨(h.sentOk hf (frameStartSequence s.config)).append hf hf rfl [.delay frameSettleMs] rfl rfl,
        h.raise_sentFail hf _ _ _⟩)
    (row := fun _ p hf _ _ _ h => ⟨h.sentOk hf (rowSequence p), fun _ _ => h.raise_sentFail hf _ _ _⟩)
    (finish := fun s hf _ _ h =>
      ⟨(h.sentOk hf (frameEndSequence s.config)).append hf hf rfl [.delay refreshGraceMs] rfl rfl,
        fun _ _ => h.raise_sentFail hf _ _ _⟩)
    (buffer := fun _ _ _ _ h => h)

end Sys2Proof.Machine
end

section
/-!
PROOFS. The host port, the order of the initialisation states and the timer (spec 10_state.md R21, R25, R40), and INIT_WAIT.
-/

namespace Sys2Proof.Machine

/-! ## The host port -/

/-- Settles O7: with an empty queue the port itself is done, with the state as it was. -/
theorem waitingBlockChangesNothing : Obligations.WaitingBlockChangesNothing := by
  intro s hq
  simp [step, fetch, hq]

/-- Settles O6: whatever the common checks say, they say the same at the port and in `exec` (R173). -/
theorem stepRunsTheDecodedOperation : Obligations.StepRunsTheDecodedOperation := by
  intro s d rest i hq hd
  simp only [step, fetch, hq]
  generalize { s with hostIn := rest } = u
  rw [exec_eq_guarded]
  rcases guarded_cases (opBody i) u with ⟨hf, he⟩ | ⟨hf, hr, he⟩ | ⟨hl, he⟩ <;> rw [he]
  · simp [deliver, hf]
  · simp [deliver, hf, hr]
  · simp [deliver, hl.1, hl.2, hd, exec_live i u hl]

/-! ## The order of the initialisation states -/

@[simp] theorem byteXfer_initState (b : WireByte) (s : State) : (byteXfer b s).initState = s.initState := by
  cases hb : s.busOk 0
  · rw [byteXfer_fail b s hb]; rfl
  · rw [byteXfer_ok b s hb]

@[simp] theorem sendAll_initState (bs : List WireByte) (s : State) : (sendAll bs s).initState = s.initState := by
  induction bs generalizing s with
  | nil => rfl
  | cons b bs ih =>
    simp only [sendAll]
    split <;> simp [ih]

theorem leaveResetting2_initState (s : State) :
    (leaveResetting2 s).initState = s.initState ∨ (leaveResetting2 s).initState = .resetting3 := by
  simp only [leaveResetting2]
  split
  · exact .inl (sendAll_initState _ s)
  · exact .inr rfl

theorem leaveResetting3_initState (s : State) :
    (leaveResetting3 s).initState = s.initState ∨ (leaveResetting3 s).initState = .initialized := by
  simp only [leaveResetting3]
  split
  · exact .inl (sendAll_initState _ s)
  · exact .inr rfl

/-- One transition of INIT, from any state: init_state stays, or moves to the next place (R25, R109). -/
theorem initLoop_one_rank (s : State) :
    (initLoop 1 s).initState.rank = s.initState.rank ∨ (initLoop 1 s).initState.rank = s.initState.rank + 1 := by
  cases hs : s.initState with
  | uninit =>
    rcases level_cases s.busyLevel with hb | hb
    · exact .inl (by simp [initLoop, hs, hb])
    · exact .inr (by simp [initLoop, hs, hb, leaveUninit]; rfl)
  | resetting1 =>
    cases ht : s.timerExpired
    · exact .inl (by simp [initLoop, hs, ht])
    · exact .inr (by simp [initLoop, hs, ht, leaveResetting1]; rfl)
  | resetting2 =>
    cases ht : s.timerExpired
    · exact .inl (by simp [initLoop, hs, ht])
    · have hone : initLoop 1 s = leaveResetting2 (timerPoll s) := by simp [initLoop, hs, ht]
      rw [hone]
      rcases leaveResetting2_initState (timerPoll s) with h | h <;> rw [h]
      · exact .inl (by simp [hs])
      · exact .inr rfl
  | resetting3 =>
    rcases level_cases s.busyLevel with hb | hb
    · exact .inl (by simp [initLoop, hs, hb])
    · have hone : initLoop 1 s = leaveResetting3 (sampleBusy s) := by simp [initLoop, hs, hb]
      rw [hone]
      rcases leaveResetting3_initState (sampleBusy s) with h | h <;> rw [h]
      · exact .inl (by simp [hs])
      · exact .inr rfl
  | initialized => exact .inl (by rw [initLoop_initialized 1 s hs, hs])

/-- Only INIT's body writes init_state (R25). -/
theorem opBody_initState (i : Instr) (hi : i ≠ .init) (s : State) (hf : s.faulted = false) :
    (opBody i s).initState = s.initState := by
  cases i with
  | init => exact absurd rfl hi
  | startFrame =>
    rcases startFrameBody_cases s hf with ⟨_, he⟩ | ⟨_, _, he⟩ | ⟨_, _, _, he⟩ | ⟨_, _, _, _, he⟩ | ⟨_, _, _, _, he⟩ <;>
      simp [opBody, he]
  | drawRow p =>
    rcases drawRowBody_cases p s hf with ⟨_, he⟩ | ⟨_, _, he⟩ | ⟨_, _, _, he⟩ | ⟨_, _, _, he⟩ | ⟨_, _, _, _, he⟩ |
      ⟨_, _, _, _, _, _, _, he⟩ <;> simp [opBody, he]
  | endFrame =>
    rcases endFrameBody_cases s hf with ⟨_, he⟩ | ⟨_, _, he⟩ | ⟨_, _, _, he⟩ | ⟨_, _, _, _, _, _, he⟩ <;> simp [opBody, he]
  | startPartial | drawPartialRow | endPartial | clipIntersect | rowRead => rfl
  | fill c cl cr l r =>
    rcases fillBody_cases c ⟨cl, cr⟩ ⟨l, r⟩ s with ⟨_, he⟩ | ⟨_, _, he⟩ | ⟨_, _, he⟩ <;> simp [opBody, he]
  | rowLoad p =>
    rcases rowLoadBody_cases p s with ⟨_, he⟩ | ⟨_, he⟩ <;> simp [opBody, he]

/-- No operation takes init_state back (R25). -/
theorem opBody_rank_le (i : Instr) (s : State) (hf : s.faulted = false) :
    s.initState.rank ≤ (opBody i s).initState.rank := by
  by_cases hi : i = .init
  · subst hi
    exact initBody_keeps (fun u => s.initState.rank ≤ u.initState.rank)
      (result := fun _ _ h => h)
      (stop := fun _ u _ h turn => h.trans (turn.rank_le u (.inl rfl)))
      (go := fun _ u _ h turn => h.trans (turn.rank_le u (.inr rfl))) s hf (le_refl _)
  · rw [opBody_initState i hi s hf]

/-- Settles O26: INIT's turns move it forward, no other operation writes it, and of the other steps only RESET does. -/
theorem initStateOnlyMovesForward : Obligations.InitStateOnlyMovesForward := by
  refine ⟨fun i s t h => ?_, initLoop_one_rank, fun s t h hback => ?_⟩
  · rcases exec_next i s t h with ⟨_, rfl⟩ | ⟨hl, rfl⟩
    · exact ⟨le_refl _, fun _ => rfl⟩
    · exact ⟨opBody_rank_le i s hl.1, fun hi => opBody_initState i hi s hl.1⟩
  · rcases step_next s t h with ⟨_, rfl⟩ | ⟨rest, hq, rfl⟩ | ⟨d, rest, _, hc⟩
    · exact absurd hback (lt_irrefl _)
    · exact ⟨rest, hq, rfl⟩
    · rcases hc with ⟨_, rfl⟩ | ⟨_, _, rfl⟩ | ⟨_, _, rfl⟩ | ⟨hl, i, _, rfl⟩
      iterate 3 exact absurd hback (lt_irrefl _)
      exact absurd hback (not_lt.2 (opBody_rank_le i { s with hostIn := rest } hl.1))

/-! ## The timer -/

/-- Past the answers that are laid out, a tape gives the free ones. -/
theorem Tape.nth_add_length {α : Type} (free : Nat → α) (t : Tape α) (k : Nat) :
    t.nth free (t.given.length + k) = free (t.drawn + (t.given.length + k)) := by
  simp [Tape.nth]

/-- A laid-out tape ends; what follows it is a fair timer's. -/
theorem timerFair (s : State) : s.TimerFair := by
  intro n
  set t := s.timerIn
  obtain ⟨m, hm, hexp⟩ := expiryOf_fair Config.freeWait (t.drawn + (t.given.length + n))
  obtain ⟨j, rfl⟩ := Nat.exists_eq_add_of_le hm
  refine ⟨t.given.length + (n + j), by omega, ?_⟩
  rw [Tape.nth_add_length]
  simpa [Config.freeExpiry, Nat.add_assoc] using hexp

/-- Polling `n` times leaves the answer that stands `n` places ahead. -/
theorem pollTimes_timerExpired (n : Nat) (s : State) :
    (pollTimes n s).timerExpired = s.timerIn.nth Config.freeExpiry n := by
  rw [State.timerExpired, ← Tape.nth_zero, pollTimes_timerIn, Tape.nth_drop, Nat.add_zero]

/-- The first `true` of a fair sequence at or after place `n`. -/
def FairExpiry.first {f : Nat → Bool} (hf : FairExpiry f) (n : Nat) : Nat := Nat.find (hf n)

/-- Where the wait for the k-th `true` of a fair sequence begins: after the one before it. -/
def FairExpiry.start {f : Nat → Bool} (hf : FairExpiry f) : Nat → Nat
  | 0 => 0
  | k + 1 => hf.first (hf.start k) + 1

/-- The waits of a timer that answers as a fair sequence does. -/
def FairExpiry.wait {f : Nat → Bool} (hf : FairExpiry f) (k : Nat) : Nat := hf.first (hf.start k) - hf.start k

theorem FairExpiry.le_first {f : Nat → Bool} (hf : FairExpiry f) (n : Nat) : n ≤ hf.first n := (Nat.find_spec (hf n)).1

theorem FairExpiry.apply_first {f : Nat → Bool} (hf : FairExpiry f) (n : Nat) : f (hf.first n) = true :=
  (Nat.find_spec (hf n)).2

theorem FairExpiry.first_le {f : Nat → Bool} (hf : FairExpiry f) {n m : Nat} (hm : n ≤ m) (h : f m = true) :
    hf.first n ≤ m := Nat.find_min' (hf n) ⟨hm, h⟩

/-- The countdown with those waits, as the `n`-th poll finds it: the current wait began at or before `n`, and what is left of
it leads to its `true`. -/
theorem FairExpiry.countdown_wait {f : Nat → Bool} (hf : FairExpiry f) (n : Nat) :
    hf.start (Config.countdown hf.wait n).1 ≤ n ∧
      n + (Config.countdown hf.wait n).2 = hf.first (hf.start (Config.countdown hf.wait n).1) := by
  induction n with
  | zero => simp [Config.countdown, FairExpiry.start, FairExpiry.wait]
  | succ n ih =>
    obtain ⟨hle, hsum⟩ := ih
    rcases hc : Config.countdown hf.wait n with ⟨k, _ | r⟩ <;> simp only [hc] at hle hsum
    · have hstart : hf.start (k + 1) = n + 1 := by simp [FairExpiry.start, ← hsum]
      have hnext := hf.le_first (n + 1)
      simp only [Config.countdown, hc, FairExpiry.wait, hstart]
      omega
    · simp only [Config.countdown, hc]
      omega

/-- A fair sequence is answered by the timer with its waits: the current wait is over exactly where the sequence is `true`. -/
theorem FairExpiry.expiryOf_wait {f : Nat → Bool} (hf : FairExpiry f) (n : Nat) : Config.expiryOf hf.wait n = f n := by
  obtain ⟨hle, hsum⟩ := hf.countdown_wait n
  rw [Config.expiryOf]
  cases hn : f n with
  | true =>
    have hfirst := hf.first_le hle hn
    simp only [beq_iff_eq]
    omega
  | false =>
    simp only [beq_eq_false_iff_ne]
    intro hzero
    rw [hzero, Nat.add_zero] at hsum
    have htrue := hf.apply_first (hf.start (Config.countdown hf.wait n).1)
    rw [← hsum, hn] at htrue
    cases htrue

/-- Settles O16: the free answers are a fair timer's by their form, and the waits of a fair sequence are the gaps between its
`true` answers. -/
theorem timerAnswersAreFreeAndFair : Obligations.TimerAnswersAreFreeAndFair := by
  refine ⟨timerFair, fun s ms => ?_, fun s answers k a ha => ?_, fun f => ⟨fun hf => ⟨hf.wait, hf.expiryOf_wait⟩, ?_⟩⟩
  · obtain ⟨n, _, hn⟩ := timerFair (timerStart ms s) 0
    exact ⟨n, (pollTimes_timerExpired n _).trans hn⟩
  · simp [pollTimes_timerExpired, Tape.nth, ha]
  · rintro ⟨wait, hwait⟩
    rw [← funext hwait]
    exact expiryOf_fair wait

end Sys2Proof.Machine
end

section
/-!
PROOFS. INIT_WAIT reaches READY (spec 30_encoding.md R86, 10_state.md R39, R40): every turn of INIT's loop draws one answer, so
the draws up to the last answer it needs bound the turns that are left.
-/

namespace Sys2Proof.Machine

/-! ## Answers that are still to come -/

/-- Among the next `k` answers of the tape at least `n` are `a`. -/
def Tape.Due {α : Type} [DecidableEq α] (free : Nat → α) (a : α) : Nat → Nat → Tape α → Prop
  | 0, _, _ => True
  | _ + 1, 0, _ => False
  | n + 1, k + 1, t => if t.head free = a then t.tail.Due free a n k else t.tail.Due free a (n + 1) k

section
variable {α : Type} [DecidableEq α] {free : Nat → α} {a : α}

theorem Tape.Due.draw_hit {n k : Nat} {t : Tape α} (h : t.Due free a (n + 1) k) (ha : t.head free = a) :
    ∃ j, k = j + 1 ∧ t.tail.Due free a n j := by
  cases k with
  | zero => exact h.elim
  | succ j => exact ⟨j, rfl, by simpa [Tape.Due, ha] using h⟩

theorem Tape.Due.draw_miss {n k : Nat} {t : Tape α} (h : t.Due free a (n + 1) k) (ha : t.head free ≠ a) :
    ∃ j, k = j + 1 ∧ t.tail.Due free a (n + 1) j := by
  cases k with
  | zero => exact h.elim
  | succ j => exact ⟨j, rfl, by simpa [Tape.Due, ha] using h⟩

theorem Tape.Due.pred {n k : Nat} {t : Tape α} (h : t.Due free a (n + 1) k) : t.Due free a n k := by
  induction k generalizing n t with
  | zero => exact h.elim
  | succ k ih =>
    cases n with
    | zero => trivial
    | succ n =>
      simp only [Tape.Due] at h ⊢
      split at h <;> simp_all

theorem Tape.Due.of_tail {n k : Nat} {t : Tape α} (h : t.tail.Due free a (n + 1) k) : t.Due free a (n + 1) (k + 1) := by
  simp only [Tape.Due]
  split
  · exact h.pred
  · exact h

end

theorem FairExpiry.tail {free : Nat → Bool} {t : Tape Bool} (h : FairExpiry (t.nth free)) :
    FairExpiry (t.tail.nth free) := by
  intro n
  obtain ⟨m, hm, hexp⟩ := h (n + 1)
  obtain ⟨j, rfl⟩ := Nat.exists_eq_add_of_le' (Nat.le_of_add_left_le hm)
  exact ⟨j, by omega, by rwa [Tape.nth_tail]⟩

/-- A fair tape has any number of expiries within some number of polls. -/
theorem Tape.due_of_fair (free : Nat → Bool) (n : Nat) (t : Tape Bool) (h : FairExpiry (t.nth free)) :
    ∃ k, t.Due free true n k := by
  induction n generalizing t with
  | zero => exact ⟨0, trivial⟩
  | succ n ih =>
    obtain ⟨j, _, hj⟩ := h 0
    induction j generalizing t with
    | zero =>
      obtain ⟨k, hk⟩ := ih t.tail h.tail
      exact ⟨k + 1, by simpa [Tape.Due, ← Tape.nth_zero, hj] using hk⟩
    | succ j ihj =>
      obtain ⟨k, hk⟩ := ihj t.tail h.tail (Nat.zero_le j) (by rwa [Tape.nth_tail])
      exact ⟨k + 1, hk.of_tail⟩

/-- An idle level at every other of the next four samples is two idle samples among the four. -/
theorem Tape.due_idle_of_pairs (t : Tape Level)
    (h : ∀ k < 3, t.nth Config.freeBusy k = 1#1 ∨ t.nth Config.freeBusy (k + 1) = 1#1) :
    t.Due Config.freeBusy 1#1 2 4 := by
  have h0 := h 0 (by decide)
  have h1 := h 1 (by decide)
  have h2 := h 2 (by decide)
  simp only [Tape.Due, ← Tape.nth_zero, Tape.nth_tail]
  split_ifs <;> simp_all

/-! ## What INIT still needs -/

/-- The idle samples that INIT needs from an initialisation state on (R110, R113). -/
def InitState.samplesLeft : InitState → Nat
  | .uninit => 2
  | .resetting1 | .resetting2 | .resetting3 => 1
  | .initialized => 0

/-- The expired polls that INIT needs from an initialisation state on (R111, R112). -/
def InitState.pollsLeft : InitState → Nat
  | .uninit | .resetting1 => 2
  | .resetting2 => 1
  | .resetting3 | .initialized => 0

/-- The byte exchanges that INIT makes from an initialisation state on (R112, R113, R115). -/
def InitState.bytesLeft : InitState → Nat
  | .uninit | .resetting1 | .resetting2 => 7
  | .resetting3 => 2
  | .initialized => 0

/-- A block that comes to INITIALIZED within `k` busy samples and `j` polls: what INIT still needs is to come. -/
structure State.OnCourse (s : State) (k j : Nat) : Prop where
  live : s.Live
  turns : 1 ≤ s.config.initMaxTransitions
  busy : s.busyIn.Due Config.freeBusy 1#1 s.initState.samplesLeft k
  timer : s.timerIn.Due Config.freeExpiry true s.initState.pollsLeft j
  bus : s.busOkFor s.initState.bytesLeft = true

theorem State.OnCourse.answer {s : State} {k j : Nat} (h : s.OnCourse k j) (r : OpResult) : (answer r s).OnCourse k j :=
  ⟨h.live, h.turns, h.busy, h.timer, h.bus⟩

@[simp] theorem busOk_sentOk (bs : List WireByte) (s : State) (k : Nat) :
    (sentOk bs s).busOk k = s.busOk (bs.length + k) := by
  simp [State.busOk, sentOk]

theorem busOkFor_sentOk (bs : List WireByte) (s : State) (n : Nat) (h : s.busOkFor (bs.length + n) = true) :
    (sentOk bs s).busOkFor n = true := by
  rw [State.busOkFor_iff] at h ⊢
  intro k hk
  rw [busOk_sentOk]
  exact h _ (by omega)

theorem busOkFor_excludes_failure {s : State} {n k : Nat} (h : s.busOkFor n = true) (hk : k < n) (hfail : s.busOk k = false) :
    False := by
  rw [(State.busOkFor_iff s n).1 h k hk] at hfail
  cases hfail

/-- Every turn before INITIALIZED draws one answer and keeps the block on its course. -/
theorem InitTurn.onCourse {s : State} {stop go : Option State} (turn : InitTurn s stop go) {k j : Nat}
    (h : s.OnCourse k j) (hs : s.initState ≠ .initialized) :
    ∀ u, stop = some u ∨ go = some u → ∃ k' j', k' + j' < k + j ∧ u.OnCourse k' j' := by
  obtain ⟨hl, hn, hbusy, htimer, hbus⟩ := h
  cases turn <;> rintro u (hu | hu) <;> cases hu
  case ready.inl h => exact absurd h hs
  case busy0.inl h hb | busy3.inl h hb =>
    rw [h] at hbusy
    obtain ⟨i, rfl, hi⟩ := hbusy.draw_miss (by rw [← State.busyLevel, hb]; decide)
    exact ⟨i, j, by omega, hl, hn, by rw [sampleBusy_initState, h]; exact hi, htimer, hbus⟩
  case leave0.inr h hb =>
    rw [h] at hbusy htimer hbus
    obtain ⟨i, rfl, hi⟩ := hbusy.draw_hit hb
    exact ⟨i, j, by omega, hl, hn, hi, htimer, hbus⟩
  case wait1.inl h ht | wait2.inl h ht =>
    rw [h] at htimer
    obtain ⟨i, rfl, hi⟩ := htimer.draw_miss (by rw [← State.timerExpired, ht]; decide)
    exact ⟨k, i, by omega, hl, hn, hbusy, by rw [timerPoll_initState, h]; exact hi, hbus⟩
  case leave1.inr h ht =>
    rw [h] at hbusy htimer hbus
    obtain ⟨i, rfl, hi⟩ := htimer.draw_hit ht
    exact ⟨k, i, by omega, hl, hn, hbusy, hi, hbus⟩
  case leave2.inr h ht _ =>
    rw [h] at hbusy htimer hbus
    obtain ⟨i, rfl, hi⟩ := htimer.draw_hit ht
    exact ⟨k, i, by omega, hl, hn, hbusy, hi, busOkFor_sentOk (boosterSequence s.config) (timerPoll s) 2 hbus⟩
  case leave3.inr h hb _ =>
    rw [h] at hbusy htimer
    obtain ⟨i, rfl, hi⟩ := hbusy.draw_hit hb
    exact ⟨i, j, by omega, hl, hn, hi, htimer, rfl⟩
  case fail2.inl h _ _ hi _ hfail =>
    rw [h] at hbus
    exact (busOkFor_excludes_failure hbus (hi.trans_le (by simp [InitState.bytesLeft])) hfail).elim
  case fail3.inl h _ _ hi _ hfail =>
    rw [h] at hbus
    exact (busOkFor_excludes_failure hbus hi hfail).elim

/-! ## INIT_WAIT -/

/-- INIT issued again and again ends live in INITIALIZED with READY (R86). -/
def State.InitWaitEnds (s : State) : Prop :=
  ∃ (n : Nat) (t : State), initWait n s = .next t ∧ t.Live ∧ t.initState = .initialized ∧ t.lastResult = some readyResult

/-- INIT, its loop having ended in this state, answers READY, or NOT_READY and a later INIT answers READY. -/
def State.LoopEndsWell (s : State) : Prop :=
  s.Live ∧ (s.initState = .initialized ∨ (answer notReadyResult s).InitWaitEnds)

theorem initWait_succ_of_ready (n : Nat) {s u : State} (hl : s.Live) (h : initBody s = answer readyResult u) :
    initWait (n + 1) s = .next (answer readyResult u) := by
  have hcode : codeField readyResult.word ≠ ResultCode.notReady.code := by decide
  simp [initWait, issueUntilReady, exec_live .init s hl, opBody, h, State.lastCode, State.lastResult, hcode]

theorem initWait_succ_of_notReady (n : Nat) {s u : State} (hl : s.Live) (h : initBody s = answer notReadyResult u) :
    initWait (n + 1) s = initWait n (answer notReadyResult u) := by
  have hcode : codeField notReadyResult.word = ResultCode.notReady.code := by decide
  simp [initWait, issueUntilReady, exec_live .init s hl, opBody, h, State.lastCode, State.lastResult, hcode]

theorem initWaitEnds_of_loop {s : State} (hl : s.Live) (h : (initLoop s.config.initMaxTransitions s).LoopEndsWell) :
    s.InitWaitEnds := by
  obtain ⟨hul, hu⟩ := h
  rcases initBody_cases s with ⟨hi, he⟩ | ⟨_, ⟨hf, _⟩ | ⟨_, hi, he⟩ | ⟨_, hi, he⟩⟩
  · exact ⟨1, _, initWait_succ_of_ready 0 hl he, hl, hi, rfl⟩
  · rw [hul.1] at hf; cases hf
  · exact ⟨1, _, initWait_succ_of_ready 0 hl he, hul, hi, rfl⟩
  · obtain ⟨n, t, hn, ht⟩ := hu.resolve_left hi
    exact ⟨n + 1, t, (initWait_succ_of_notReady n hl he).trans hn, ht⟩

/-- A block on its course ends INIT_WAIT, wherever INIT's loop finds it: each turn leaves fewer draws to come. -/
theorem State.OnCourse.loopEndsWell {s : State} {k j : Nat} (h : s.OnCourse k j) (n : Nat) :
    (initLoop n s).LoopEndsWell := by
  induction hm : k + j using Nat.strong_induction_on generalizing s k j n with
  | _ m ih =>
    by_cases hi : s.initState = .initialized
    · rw [initLoop_initialized n s hi]
      exact ⟨h.live, .inl hi⟩
    have later : ∀ (v : State) (l : Nat), v.OnCourse k j → v.initState ≠ .initialized →
        (initLoop (l + 1) v).LoopEndsWell := by
      intro v l hv hvi
      rcases initLoop_turn l v hv.live.1 with ⟨u, turn, he⟩ | ⟨u, turn, _, he⟩
      · obtain ⟨k', j', hlt, hu⟩ := turn.onCourse hv hvi u (.inl rfl)
        rw [he]
        exact ih _ (hm ▸ hlt) hu 0 rfl
      · obtain ⟨k', j', hlt, hu⟩ := turn.onCourse hv hvi u (.inr rfl)
        rw [he]
        exact ih _ (hm ▸ hlt) hu l rfl
    cases n with
    | zero =>
      have ha := h.answer notReadyResult
      obtain ⟨l, hl⟩ := Nat.exists_eq_add_of_le' h.turns
      have hends : (Machine.answer notReadyResult s).InitWaitEnds := by
        refine initWaitEnds_of_loop ha.live ?_
        rw [answer_config, hl]
        exact later _ l ha hi
      exact ⟨h.live, .inr hends⟩
    | succ l => exact later s l h hi

/-- The samples, polls and exchanges of the statement put a live block on its course, from any initialisation state. -/
theorem exists_onCourse {s : State} (hl : s.Live) (hn : 1 ≤ s.config.initMaxTransitions)
    (hbusy : s.busyIn.Due Config.freeBusy 1#1 2 4) (hbus : s.busOkFor 7 = true) : ∃ j, s.OnCourse 4 j := by
  obtain ⟨j, hj⟩ := Tape.due_of_fair Config.freeExpiry s.initState.pollsLeft s.timerIn (timerFair s)
  refine ⟨j, hl, hn, ?_, hj, ?_⟩
  · cases s.initState with
    | uninit => exact hbusy
    | resetting1 | resetting2 | resetting3 => exact hbusy.pred
    | initialized => trivial
  · rw [State.busOkFor_iff] at hbus ⊢
    have hle : s.initState.bytesLeft ≤ 7 := by cases s.initState <;> decide
    exact fun k hk => hbus k (Nat.lt_of_lt_of_le hk hle)

/-- Settles O29: a fair timer has the two expiries that INIT needs within some number of polls. -/
theorem initWaitEndsBecauseTheTimerIsFair : Obligations.InitWaitEndsBecauseTheTimerIsFair := by
  intro s hl hn hbusy hbus
  obtain ⟨j, hcourse⟩ := exists_onCourse hl hn (Tape.due_idle_of_pairs _ hbusy) hbus
  exact initWaitEnds_of_loop hl (hcourse.loopEndsWell _)

end Sys2Proof.Machine
end

section
/-!
PROOFS. Frames of the operations (spec 20_memory.md R58, R60): what the framer's operations and the bit-packer's operations
leave alone.
-/

namespace Sys2Proof.Machine

/-! ## The framer -/

/-- What every framer operation leaves alone between `s` and `u`: it stores to no byte of the row buffer, the trace only
grows, and fault_cause changes only by a fault (R58, R186). -/
structure State.FramerAlone (s u : State) : Prop where
  config : u.config = s.config
  refused : u.refused = s.refused
  hostIn : u.hostIn = s.hostIn
  resets : u.resets = s.resets
  rowBuf : u.rowBuf = s.rowBuf
  trace : s.traceRev <:+ u.traceRev
  cause : u.faulted = false → u.faultCause = s.faultCause

theorem State.FramerAlone.refl (s : State) : s.FramerAlone s := ⟨rfl, rfl, rfl, rfl, rfl, List.suffix_rfl, fun _ => rfl⟩

theorem State.FramerAlone.trans {s v u : State} (h : s.FramerAlone v) (hv : v.faulted = false) (h' : v.FramerAlone u) :
    s.FramerAlone u where
  config := h'.config.trans h.config
  refused := h'.refused.trans h.refused
  hostIn := h'.hostIn.trans h.hostIn
  resets := h'.resets.trans h.resets
  rowBuf := h'.rowBuf.trans h.rowBuf
  trace := h.trace.trans h'.trace
  cause hu := (h'.cause hu).trans (h.cause hv)

theorem State.FramerAlone.answer {s u : State} (h : s.FramerAlone u) (r : OpResult) : s.FramerAlone (answer r u) :=
  ⟨h.config, h.refused, h.hostIn, h.resets, h.rowBuf, h.trace, h.cause⟩

/-- What INIT leaves alone: the frame's state too (R109). -/
structure State.InitAlone (s u : State) : Prop extends s.FramerAlone u where
  frameOpen : u.frameOpen = s.frameOpen
  rowsSent : u.rowsSent = s.rowsSent

theorem State.InitAlone.trans {s v u : State} (h : s.InitAlone v) (hv : v.faulted = false) (h' : v.InitAlone u) :
    s.InitAlone u where
  toFramerAlone := h.toFramerAlone.trans hv h'.toFramerAlone
  frameOpen := h'.frameOpen.trans h.frameOpen
  rowsSent := h'.rowsSent.trans h.rowsSent

theorem State.InitAlone.answer {s u : State} (h : s.InitAlone u) (r : OpResult) : s.InitAlone (answer r u) :=
  ⟨h.toFramerAlone.answer r, h.frameOpen, h.rowsSent⟩

/-- A turn of INIT only adds events, and a fault at most (R109). -/
theorem InitTurn.initAlone {s : State} {stop go : Option State} (turn : InitTurn s stop go) :
    ∀ u, stop = some u ∨ go = some u → s.InitAlone u := by
  cases turn <;> rintro u (hu | hu) <;> cases hu
  case ready.inl => exact ⟨.refl s, rfl, rfl⟩
  case busy0.inl | busy3.inl | wait1.inl | wait2.inl =>
    exact ⟨⟨rfl, rfl, rfl, rfl, rfl, List.suffix_cons _ _, fun _ => rfl⟩, rfl, rfl⟩
  case leave0.inr | leave1.inr => exact ⟨⟨rfl, rfl, rfl, rfl, rfl, ⟨[_, _, _], rfl⟩, fun _ => rfl⟩, rfl, rfl⟩
  case leave2.inr | leave3.inr =>
    exact ⟨⟨rfl, rfl, rfl, rfl, rfl, (List.suffix_cons _ _).trans (List.suffix_append _ _), fun _ => rfl⟩, rfl, rfl⟩
  case fail2.inl | fail3.inl =>
    refine ⟨⟨rfl, rfl, rfl, rfl, rfl, ?_, by simp⟩, rfl, rfl⟩
    exact ((List.suffix_cons _ _).trans (List.suffix_append _ _)).trans (List.suffix_cons _ _)

theorem initBody_initAlone (s : State) (hf : s.faulted = false) : s.InitAlone (initBody s) :=
  initBody_keeps s.InitAlone (result := fun r _ h => h.answer r)
    (stop := fun _ u hv h turn => h.trans hv (turn.initAlone u (.inl rfl)))
    (go := fun _ u hv h turn => h.trans hv (turn.initAlone u (.inr rfl))) s hf ⟨.refl s, rfl, rfl⟩

/-- What START_FRAME, DRAW_ROW and END_FRAME leave alone: INIT's part of the state too, with the timer's answers
(R116 to R118). -/
structure State.FrameOpAlone (s u : State) : Prop extends s.FramerAlone u where
  initState : u.initState = s.initState
  rstOut : u.rstOut = s.rstOut
  timerRunning : u.timerRunning = s.timerRunning
  timerPeriodMs : u.timerPeriodMs = s.timerPeriodMs
  timerIn : u.timerIn = s.timerIn

theorem State.FrameOpAlone.trans {s v u : State} (h : s.FrameOpAlone v) (hv : v.faulted = false) (h' : v.FrameOpAlone u) :
    s.FrameOpAlone u where
  toFramerAlone := h.toFramerAlone.trans hv h'.toFramerAlone
  initState := h'.initState.trans h.initState
  rstOut := h'.rstOut.trans h.rstOut
  timerRunning := h'.timerRunning.trans h.timerRunning
  timerPeriodMs := h'.timerPeriodMs.trans h.timerPeriodMs
  timerIn := h'.timerIn.trans h.timerIn

theorem State.FrameOpAlone.answer {s u : State} (h : s.FrameOpAlone u) (r : OpResult) : s.FrameOpAlone (answer r u) :=
  ⟨h.toFramerAlone.answer r, h.initState, h.rstOut, h.timerRunning, h.timerPeriodMs, h.timerIn⟩

theorem frameOpAlone_raise (c : Cause) (s : State) : s.FrameOpAlone (raise c s) :=
  ⟨⟨rfl, rfl, rfl, rfl, rfl, List.suffix_rfl, by simp⟩, rfl, rfl, rfl, rfl, rfl⟩

theorem frameOpAlone_sampleBusy (s : State) : s.FrameOpAlone (sampleBusy s) :=
  ⟨⟨rfl, rfl, rfl, rfl, rfl, List.suffix_cons _ _, fun _ => rfl⟩, rfl, rfl, rfl, rfl, rfl⟩

/-- A whole byte sequence, with the frame's state written after it. -/
theorem frameOpAlone_sentOk (bs : List WireByte) (o : Bool) (n : Nat) (s : State) :
    s.FrameOpAlone { sentOk bs s with frameOpen := o, rowsSent := n } :=
  ⟨⟨rfl, rfl, rfl, rfl, rfl, List.suffix_append _ _, fun _ => rfl⟩, rfl, rfl, rfl, rfl, rfl⟩

theorem frameOpAlone_delay (ms : Nat) (s : State) : s.FrameOpAlone (delay ms s) :=
  ⟨⟨rfl, rfl, rfl, rfl, rfl, List.suffix_cons _ _, fun _ => rfl⟩, rfl, rfl, rfl, rfl, rfl⟩

/-- A byte sequence cut off by COMM_FAULT. -/
theorem frameOpAlone_raise_sentFail (bs : List WireByte) (k : Nat) (b : WireByte) (s : State) :
    s.FrameOpAlone (raise .commFault (sentFail bs k b s)) :=
  ⟨⟨rfl, rfl, rfl, rfl, rfl, (List.suffix_append _ _).trans (List.suffix_cons _ _), by simp⟩, rfl, rfl, rfl, rfl, rfl⟩

theorem startFrameBody_frameOpAlone (s : State) (hf : s.faulted = false) : s.FrameOpAlone (startFrameBody s) := by
  have hsample := frameOpAlone_sampleBusy s
  rcases startFrameBody_cases s hf with ⟨_, he⟩ | ⟨_, _, he⟩ | ⟨_, _, _, he⟩ | ⟨_, _, _, _, he⟩ | ⟨_, _, _, _, he⟩ <;> rw [he]
  · exact frameOpAlone_raise _ s
  · exact frameOpAlone_raise _ s
  · exact hsample.answer _
  · have hsent := frameOpAlone_sentOk (frameStartSequence s.config) true 0 (sampleBusy s)
    exact ((hsample.trans hf hsent).trans hf (frameOpAlone_delay frameSettleMs _)).answer _
  · exact hsample.trans hf (frameOpAlone_raise_sentFail _ _ _ _)

/-- DRAW_ROW draws no busy sample and leaves frame_open (R117). -/
theorem drawRowBody_frameOpAlone (p : List Byte) (s : State) (hf : s.faulted = false) :
    s.FrameOpAlone (drawRowBody p s) ∧ (drawRowBody p s).busyIn = s.busyIn ∧ (drawRowBody p s).frameOpen = s.frameOpen := by
  rcases drawRowBody_cases p s hf with ⟨_, he⟩ | ⟨_, _, he⟩ | ⟨_, _, _, he⟩ | ⟨_, _, _, he⟩ | ⟨_, _, _, _, he⟩ |
    ⟨_, _, _, _, _, _, _, he⟩ <;> rw [he]
  iterate 4 exact ⟨frameOpAlone_raise _ s, rfl, rfl⟩
  · exact ⟨(frameOpAlone_sentOk (rowSequence p) s.frameOpen _ s).answer _, rfl, rfl⟩
  · exact ⟨frameOpAlone_raise_sentFail _ _ _ s, rfl, rfl⟩

/-- END_FRAME draws no busy sample (R118). -/
theorem endFrameBody_frameOpAlone (s : State) (hf : s.faulted = false) :
    s.FrameOpAlone (endFrameBody s) ∧ (endFrameBody s).busyIn = s.busyIn := by
  rcases endFrameBody_cases s hf with ⟨_, he⟩ | ⟨_, _, he⟩ | ⟨_, _, _, he⟩ | ⟨_, _, _, _, _, _, he⟩ <;> rw [he]
  iterate 2 exact ⟨frameOpAlone_raise _ s, rfl⟩
  · have hsent := frameOpAlone_sentOk (frameEndSequence s.config) false 0 s
    exact ⟨(hsent.trans hf (frameOpAlone_delay refreshGraceMs _)).answer _, rfl⟩
  · exact ⟨frameOpAlone_raise_sentFail _ _ _ s, rfl⟩

/-- A framer operation is INIT or one of the three frame operations, and leaves alone what its kind does. -/
theorem opBody_framerAlone (i : Instr) (s : State) (hf : s.faulted = false)
    (hi : i = .init ∨ i = .startFrame ∨ (∃ p, i = .drawRow p) ∨ i = .endFrame) :
    s.FramerAlone (opBody i s) ∧ (i ≠ .init → s.FrameOpAlone (opBody i s)) ∧
      (i ≠ .init → i ≠ .startFrame → (opBody i s).busyIn = s.busyIn) := by
  rcases hi with rfl | rfl | ⟨p, rfl⟩ | rfl
  · exact ⟨(initBody_initAlone s hf).toFramerAlone, fun h => absurd rfl h, fun h => absurd rfl h⟩
  · have h := startFrameBody_frameOpAlone s hf
    exact ⟨h.toFramerAlone, fun _ => h, fun _ h => absurd rfl h⟩
  · obtain ⟨h, hbusy, _⟩ := drawRowBody_frameOpAlone p s hf
    exact ⟨h.toFramerAlone, fun _ => h, fun _ _ => hbusy⟩
  · obtain ⟨h, hbusy⟩ := endFrameBody_frameOpAlone s hf
    exact ⟨h.toFramerAlone, fun _ => h, fun _ _ => hbusy⟩

/-- Settles O44: a faulted block changes its results alone; in a live one each turn of INIT, and each path of a frame
operation, is a chain of primitives that leave the rest alone. -/
theorem framerLeavesTheRestAlone : Obligations.FramerLeavesTheRestAlone := by
  intro i s t h hi
  rcases exec_next i s t h with ⟨hf, rfl⟩ | ⟨hl, rfl⟩
  · exact ⟨rfl, rfl, rfl, rfl, rfl, fun _ => rfl, ⟨[], rfl⟩, fun _ => ⟨rfl, rfl⟩, fun _ => ⟨rfl, rfl, rfl, rfl, rfl⟩,
      fun _ _ => rfl, fun _ _ => rfl, fun _ => ⟨rfl, hf⟩, fun _ => rfl⟩
  · obtain ⟨alone, frameOp, busyIn⟩ := opBody_framerAlone i s hl.1 hi
    refine ⟨alone.config, alone.refused, alone.hostIn, alone.resets, by rw [alone.rowBuf], fun k => by rw [alone.rowBuf],
      alone.trace.imp fun _ he => he.symm, ?init, ?others, busyIn, ?row, ?faulted, alone.cause⟩
    case init =>
      rintro rfl
      obtain ⟨_, hframe, hrows⟩ := initBody_initAlone s hl.1
      exact ⟨hframe, hrows⟩
    case others =>
      intro hne
      obtain ⟨_, hinit, hrst, hrunning, hperiod, htimer⟩ := frameOp hne
      exact ⟨hinit, hrst, hrunning, hperiod, htimer⟩
    case row => rintro p rfl; exact (drawRowBody_frameOpAlone p s hl.1).2.2
    case faulted => intro hf; rw [hl.1] at hf; cases hf

/-! ## The bit-packer -/

theorem applyMask_read_other (k : Nat) (mask : Byte) (b : Level) (m : Memory) {j : Nat} (h : j ≠ k) :
    (applyMask k mask b m).read j = m.read j := m.read_write_other j k _ h

/-- The interior of a fill stores to no byte outside it, whatever the buffer's length (R145). -/
theorem fillBytes_read_outside (b : Level) (k n : Nat) (m : Memory) {j : Nat} (h : j < k ∨ k + n ≤ j) :
    (fillBytes b k n m).read j = m.read j := by
  induction n generalizing k m with
  | zero => rfl
  | succ n ih => rw [fillBytes, ih (k + 1) _ (by omega), Memory.read_write_other _ _ _ _ (by omega)]

/-- A fill stores to no byte outside its first and its last, whatever the buffer's length (R145, R147). -/
theorem fillSpan_read_outside (o : BitOrder) (b : Level) {l r : Nat} (m : Memory) (hlr : l < r) {j : Nat}
    (h : j < l / 8 ∨ (r - 1) / 8 < j) : (fillSpan o b l r m).read j = m.read j := by
  have hle : l / 8 ≤ (r - 1) / 8 := Nat.div_le_div_right (by omega)
  simp only [fillSpan]
  split
  · exact applyMask_read_other _ _ _ _ (by omega)
  · rw [applyMask_read_other _ _ _ _ (by omega), fillBytes_read_outside _ _ _ _ (by omega),
      applyMask_read_other _ _ _ _ (by omega)]

/-- A clipped span that is not empty and fits has its bounds in order as numbers. -/
theorem State.SpanFits.left_lt_right {s : State} {e : Interval} (h : s.SpanFits e) (he : e.empty = false) :
    e.left.toInt.toNat < e.right.toInt.toNat := by
  have hlt : ¬ e.right.toInt ≤ e.left.toInt := by simp [← Interval.empty_iff, he]
  obtain ⟨hleft, _⟩ := h
  omega

/-- Everything a bit-packer operation can do: answer, fault (FILL and ROW_LOAD only), fill the clipped span, or load the whole
row (R142, R145, R149, R150). -/
theorem bitPacker_next (i : Instr) (s t : State) (h : exec i s = .next t)
    (hi : (∃ c cl cr l r, i = .fill c cl cr l r) ∨ (∃ a b c d, i = .clipIntersect a b c d) ∨ (∃ p, i = .rowLoad p) ∨
      i = .rowRead) :
    (∃ r, t = answer r s) ∨
      (¬ ((∃ a b c d, i = .clipIntersect a b c d) ∨ i = .rowRead) ∧ ∃ c, t = raise c s) ∨
      (∃ c cl cr l r, i = .fill c cl cr l r ∧ s.Live ∧
        let e := Interval.intersect ⟨cl, cr⟩ ⟨l, r⟩
        e.empty = false ∧ s.SpanFits e ∧ t = answer readyResult { s with
          rowBuf := fillSpan s.config.bitOrder (cbit s.config.whiteBit c) e.left.toInt.toNat e.right.toInt.toNat
            s.rowBuf }) ∨
      ∃ p, i = .rowLoad p ∧ s.Live ∧ p.length = s.config.fillBytes ∧ t = answer readyResult { s with rowBuf := p } := by
  rcases exec_next i s t h with ⟨_, rfl⟩ | ⟨hl, rfl⟩
  · exact .inl ⟨_, rfl⟩
  rcases hi with ⟨c, cl, cr, l, r, rfl⟩ | ⟨_, _, _, _, rfl⟩ | ⟨p, rfl⟩ | rfl
  · rcases fillBody_cases c ⟨cl, cr⟩ ⟨l, r⟩ s with ⟨_, he⟩ | ⟨_, _, he⟩ | ⟨hne, hfits, he⟩
    · exact .inl ⟨_, he⟩
    · exact .inr (.inl ⟨by simp, _, he⟩)
    · exact .inr (.inr (.inl ⟨c, cl, cr, l, r, rfl, hl, hne, hfits, he⟩))
  · exact .inl ⟨_, rfl⟩
  · rcases rowLoadBody_cases p s with ⟨hlen, he⟩ | ⟨_, he⟩
    · exact .inr (.inr (.inr ⟨p, rfl, hl, hlen, he⟩))
    · exact .inr (.inl ⟨by simp, _, he⟩)
  · exact .inl ⟨_, rfl⟩

/-- Settles O45: an answer and a fault store to no byte, a fill to the bytes of its span alone, and ROW_LOAD to all. -/
theorem bitPackerLeavesTheRestAlone : Obligations.BitPackerLeavesTheRestAlone := by
  intro i s t h hi
  rcases bitPacker_next i s t h hi with ⟨r, rfl⟩ | ⟨hi, c, rfl⟩ | ⟨c, cl, cr, l, r, rfl, hl, hne, hfits, rfl⟩ |
    ⟨p, rfl, hl, hlen, rfl⟩
  · exact ⟨rfl, fun _ => rfl, fun _ _ => .inl rfl, fun _ => ⟨rfl, rfl, fun _ => rfl⟩, fun _ _ => rfl, fun _ => rfl,
      fun _ _ _ _ _ _ _ _ => rfl⟩
  · exact ⟨rfl, fun _ => rfl, fun _ _ => .inl rfl, fun h => absurd h hi, fun _ _ => rfl, by simp,
      fun _ _ _ _ _ _ _ _ => rfl⟩
  · refine ⟨rfl, fun _ => fillSpan_length _ _ _ _ _, by simp, by simp, by simp [hl.1], fun _ => rfl, ?_⟩
    rintro _ _ _ _ _ ⟨⟩ e k hk
    exact fillSpan_read_outside _ _ _ (hfits.left_lt_right hne) (hk.resolve_left (Bool.eq_false_iff.1 hne))
  · refine ⟨rfl, fun hno => absurd ⟨p, rfl⟩ hno, ?_, by simp, by simp [hl.1], fun _ => rfl, by simp⟩
    rintro _ ⟨⟩
    exact .inr ⟨rfl, hlen⟩

end Sys2Proof.Machine
end

section
/-!
PROOFS. The encoding (spec 30_encoding.md): word0 as its four fields, the two directions of the round trip between operations
and descriptors, and the faults of a reserved opcode and of a reserved field.
-/

namespace Sys2Proof

/-! ## word0 as its fields -/

/-- The reserved bits RSV = word0[15:9] (R70). -/
def rsvField (w : Word) : BitVec 7 := w.extractLsb' 9 7

/-- A word is the sum of its four fields: R70 leaves no bit out. -/
theorem toNat_eq_fields (w : Word) :
    w.toNat = (opcField w).toNat + (w.extractLsb' 8 1).toNat * 2 ^ 8 + (rsvField w).toNat * 2 ^ 9 + lenField w * 2 ^ 16 := by
  have hw := w.isLt
  simp only [opcField, rsvField, lenField, BitVec.extractLsb'_toNat, Nat.shiftRight_eq_div_pow]
  omega

theorem opcField_and (w v : Word) : opcField (w &&& v) = opcField w &&& opcField v := BitVec.extractLsb'_and

theorem rsvField_and (w v : Word) : rsvField (w &&& v) = rsvField w &&& rsvField v := BitVec.extractLsb'_and

/-- Two words are equal when their four fields are. -/
theorem eq_iff_fields (w v : Word) :
    w = v ↔ w.extractLsb' 16 16 = v.extractLsb' 16 16 ∧ rsvField w = rsvField v ∧
      w.extractLsb' 8 1 = v.extractLsb' 8 1 ∧ opcField w = opcField v := by
  refine ⟨by rintro rfl; exact ⟨rfl, rfl, rfl, rfl⟩, fun ⟨hlen, hrsv, hcolor, hopc⟩ => BitVec.eq_of_toNat_eq ?_⟩
  rw [toNat_eq_fields w, toNat_eq_fields v, lenField, lenField, hlen, hrsv, hcolor, hopc]

theorem packWord0_toNat (o : Opcode) {c n : Nat} (hc : c < 2) (hn : n < 65536) :
    (packWord0 o c n).toNat = o.code.toNat + c * 2 ^ 8 + n * 2 ^ 16 := by
  have hopc : o.code.toNat < 256 := o.code.isLt
  rw [packWord0, BitVec.toNat_ofNat]
  omega

theorem lenField_lt (w : Word) : lenField w < 65536 := (w.extractLsb' 16 16).isLt

/-- LEN is read back from the encoder's word0 (R72). -/
theorem lenField_packWord0 (o : Opcode) {n : Nat} (hn : n < 65536) : lenField (packWord0 o 0 n) = n := by
  have hopc : o.code.toNat < 256 := o.code.isLt
  rw [lenField, BitVec.extractLsb'_toNat, packWord0_toNat o (by omega) hn, Nat.shiftRight_eq_div_pow]
  omega

/-- C as a bit and as a colour (R70). -/
theorem colorField_field (w : Word) : (colorField w).field = (w.extractLsb' 8 1).toNat := by
  have hbit : (w.extractLsb' 8 1).toNat = (w.getLsbD 8).toNat := by
    simp only [BitVec.extractLsb'_toNat, BitVec.getLsbD, Nat.toNat_testBit, Nat.shiftRight_eq_div_pow, pow_one]
  rw [hbit, colorField]
  cases w.getLsbD 8 <;> rfl

/-! ## The mask form (R75, R76) -/

/-- The bits of LEN that the mask covers: none for a payload operation. -/
def Opcode.lenMask (o : Opcode) : BitVec 16 := if o.format = .wp then 0#16 else 0xFFFF#16

/-- The bit of C that the mask covers: not for FILL. -/
def Opcode.colorMask (o : Opcode) : BitVec 1 := if o = .fill then 0#1 else 1#1

/-- The mask's fields: RSV and OPC are covered whole. -/
theorem Opcode.mask_fields (o : Opcode) :
    o.mask.extractLsb' 16 16 = o.lenMask ∧ rsvField o.mask = 0x7F#7 ∧ o.mask.extractLsb' 8 1 = o.colorMask ∧
      opcField o.mask = 0xFF#8 := by
  cases o <;> decide

/-- The match value's fields: 0 but for OPC. -/
theorem Opcode.pattern_fields (o : Opcode) :
    o.pattern.extractLsb' 16 16 = 0#16 ∧ rsvField o.pattern = 0#7 ∧ o.pattern.extractLsb' 8 1 = 0#1 ∧
      opcField o.pattern = o.code := by
  cases o <;> decide

theorem and_lenMask_eq_zero_iff (o : Opcode) (len : BitVec 16) : len &&& o.lenMask = 0#16 ↔ (o.format ≠ .wp → len = 0#16) := by
  have hones : len &&& 0xFFFF#16 = len := BitVec.and_allOnes
  by_cases ho : o.format = .wp <;> simp [Opcode.lenMask, ho, hones]

theorem and_colorMask_eq_zero_iff (o : Opcode) (c : BitVec 1) : c &&& o.colorMask = 0#1 ↔ (o ≠ .fill → c = 0#1) := by
  have hones : c &&& 1#1 = c := BitVec.and_allOnes
  by_cases ho : o = .fill <;> simp [Opcode.colorMask, ho, hones]

/-- (word0 & mask) = match says: the opcode is the row's, and the fields reserved for that row are 0 (R75, R76). -/
theorem mask_form_iff (w : Word) (o : Opcode) :
    w &&& o.mask = o.pattern ↔
      (o.format ≠ .wp → w.extractLsb' 16 16 = 0#16) ∧ rsvField w = 0#7 ∧ (o ≠ .fill → w.extractLsb' 8 1 = 0#1) ∧
        opcField w = o.code := by
  have hrsv : rsvField w &&& 0x7F#7 = rsvField w := BitVec.and_allOnes
  have hopc : opcField w &&& 0xFF#8 = opcField w := BitVec.and_allOnes
  obtain ⟨hmaskLen, hmaskRsv, hmaskColor, hmaskOpc⟩ := o.mask_fields
  obtain ⟨hpatLen, hpatRsv, hpatColor, hpatOpc⟩ := o.pattern_fields
  rw [eq_iff_fields, hpatLen, hpatRsv, hpatColor, hpatOpc, BitVec.extractLsb'_and, rsvField_and, BitVec.extractLsb'_and,
    opcField_and, hmaskLen, hmaskRsv, hmaskColor, hmaskOpc, and_lenMask_eq_zero_iff, hrsv, and_colorMask_eq_zero_iff, hopc]

/-! ## The opcode map (R73, R74) -/

theorem opcodeOf_eq_some {b : Byte} {o : Opcode} (h : opcodeOf b = some o) : o.code = b := by
  simpa using List.find?_some h

/-- The opcodes without a row are those that R74 lists. -/
theorem opcodeOf_eq_none_iff (b : Byte) : opcodeOf b = none ↔ Machine.reservedOpcodeByte b.toNat := by
  have hb := b.isLt
  simp only [opcodeOf, List.find?_eq_none, Opcode.all, List.forall_mem_cons, List.not_mem_nil, false_implies, implies_true,
    and_true, beq_iff_eq, Opcode.code, ← BitVec.toNat_inj, BitVec.toNat_ofNat]
  omega

theorem decodeWord0_ok {w : Word} {o : Opcode} (h : decodeWord0 w = .ok o) : w &&& o.mask = o.pattern := by
  unfold decodeWord0 at h
  split at h
  · cases h
  · split at h
    · cases h; assumption
    · cases h

theorem decodeWord0_reservedOpcode_iff (w : Word) :
    decodeWord0 w = .error .reservedOpcode ↔ Machine.reservedOpcodeByte (opcField w).toNat := by
  rw [← opcodeOf_eq_none_iff, decodeWord0]
  cases opcodeOf (opcField w) with
  | none => simp
  | some o => by_cases h : w &&& o.mask = o.pattern <;> simp [h]

/-- A listed opcode whose word0 does not have the mask form is a reserved field (R75). -/
theorem decodeWord0_reservedField {w : Word} {o : Opcode} (ho : opcodeOf (opcField w) = some o)
    (h : ¬ w &&& o.mask = o.pattern) : decodeWord0 w = .error .reservedField := by
  simp [decodeWord0, ho, h]

theorem decode_of_word0_error {d : Descriptor} {e : DecodeError} (h : decodeWord0 d.word0 = .error e) :
    decode d = .error e := by
  simp [decode, h]

/-! ## From an operation to its descriptor and back -/

/-- The word0 of every well-formed operation decodes to its row. -/
theorem decodeWord0_encode (i : Instr) : Laws.Word0.Statement i := by
  cases i with
  | init => exact Laws.Word0.init
  | startFrame => exact Laws.Word0.startFrame
  | drawRow p => exact Laws.Word0.drawRow p
  | endFrame => exact Laws.Word0.endFrame
  | startPartial l t r b => exact Laws.Word0.startPartial l t r b
  | drawPartialRow p => exact Laws.Word0.drawPartialRow p
  | endPartial => exact Laws.Word0.endPartial
  | fill c cl cr l r => exact Laws.Word0.fill c cl cr l r
  | clipIntersect al ar bl br => exact Laws.Word0.clipIntersect al ar bl br
  | rowLoad p => exact Laws.Word0.rowLoad p
  | rowRead => exact Laws.Word0.rowRead

theorem colorField_packWord0_fill (c : Color) : colorField (packWord0 .fill c.field 0) = c := by
  cases c <;> decide

theorem readWp_encoded (f : List Byte → Instr) (o : Opcode) {p : List Byte} (hp : payloadFits p = true) :
    readWp f ⟨packWord0 o 0 p.length, [], p⟩ = .ok (f p) := by
  have hlen : lenField (packWord0 o 0 p.length) = p.length := lenField_packWord0 o (by simpa [payloadFits] using hp)
  simp [readWp, hlen]

/-- The operands of a well-formed operation are read back from its descriptor (R71, R72). -/
theorem readOperands_encode (i : Instr) (h : i.wf = true) : readOperands i.opcode (encode i) = .ok i := by
  cases i with
  | init | startFrame | endFrame | endPartial | rowRead => rfl
  | startPartial | clipIntersect => rfl
  | drawRow | drawPartialRow | rowLoad => exact readWp_encoded _ _ h
  | fill c cl cr l r =>
    have hc := colorField_packWord0_fill c
    simp [Instr.opcode, encode, readOperands, readW5, hc]

/-- Settles O1: word0 decodes to the operation's row, and the row's operands are read back one by one. -/
theorem decodeOfEncodeIsTheOperation : Obligations.DecodeOfEncodeIsTheOperation := by
  intro i h
  simp [decode, decodeWord0_encode i h, readOperands_encode i h]

/-! ## From a descriptor to its operation and back -/

theorem readW1_ok {i j : Instr} {w : Word} {operands : List Word} {payload : List Byte}
    (h : readW1 i ⟨w, operands, payload⟩ = .ok j) : j = i ∧ operands = [] ∧ payload = [] := by
  cases operands <;> cases payload <;> cases h
  exact ⟨rfl, rfl, rfl⟩

theorem readW5_ok {f : Word → Word → Word → Word → Instr} {j : Instr} {w : Word} {operands : List Word}
    {payload : List Byte} (h : readW5 f ⟨w, operands, payload⟩ = .ok j) :
    ∃ a b c e, j = f a b c e ∧ operands = [a, b, c, e] ∧ payload = [] := by
  unfold readW5 at h
  split at h
  next a b c e ho hp => cases h; exact ⟨a, b, c, e, rfl, ho, hp⟩
  next => cases h

theorem readWp_ok {f : List Byte → Instr} {j : Instr} {w : Word} {operands : List Word} {payload : List Byte}
    (h : readWp f ⟨w, operands, payload⟩ = .ok j) : j = f payload ∧ operands = [] ∧ payload.length = lenField w := by
  unfold readWp at h
  split at h
  next ho =>
    split at h
    next hlen => cases h; exact ⟨rfl, ho, hlen⟩
    next => cases h
  next => cases h

/-- An accepted word0 is the encoder's word0 for its row, with its colour if the row is FILL and its length if the row has a
payload (R75, R76). -/
theorem eq_packWord0_of_mask_form {w : Word} {o : Opcode} (h : w &&& o.mask = o.pattern) :
    w = packWord0 o (if o = .fill then (colorField w).field else 0) (if o.format = .wp then lenField w else 0) := by
  obtain ⟨hlen, hrsv, hcolor, hopc⟩ := (mask_form_iff w o).1 h
  have hc : (if o = .fill then (colorField w).field else 0) = (w.extractLsb' 8 1).toNat := by
    split
    · exact colorField_field w
    · rw [hcolor ‹_›]; rfl
  have hn : (if o.format = .wp then lenField w else 0) = lenField w := by
    split
    · rfl
    · rw [lenField, hlen ‹_›]; rfl
  rw [hc, hn]
  apply BitVec.eq_of_toNat_eq
  rw [packWord0_toNat o (w.extractLsb' 8 1).isLt (lenField_lt w), toNat_eq_fields, hrsv, hopc]
  simp

/-- A LEN read from a word0 is in the range of R72. -/
theorem payloadFits_of_length_eq {p : List Byte} {w : Word} (h : p.length = lenField w) : payloadFits p = true := by
  simpa only [payloadFits, h, decide_eq_true_eq] using lenField_lt w

/-- An operation read from a descriptor with its row's mask form has that descriptor (R71 to R73). -/
theorem encode_of_readOperands {d : Descriptor} {o : Opcode} {i : Instr} (hw : d.word0 &&& o.mask = o.pattern)
    (h : readOperands o d = .ok i) : encode i = d ∧ i.wf = true := by
  have hword0 := (eq_packWord0_of_mask_form hw).symm
  obtain ⟨w, operands, payload⟩ := d
  cases o
  case init | startFrame | endFrame | endPartial | rowRead =>
    obtain ⟨rfl, rfl, rfl⟩ := readW1_ok h
    exact ⟨congrArg (Descriptor.mk · [] []) hword0, rfl⟩
  case startPartial | clipIntersect | fill =>
    obtain ⟨a, b, c, e, rfl, rfl, rfl⟩ := readW5_ok h
    exact ⟨congrArg (Descriptor.mk · [a, b, c, e] []) hword0, rfl⟩
  case drawRow | drawPartialRow | rowLoad =>
    obtain ⟨rfl, rfl, hlen⟩ := readWp_ok h
    rw [← hlen] at hword0
    exact ⟨congrArg (Descriptor.mk · [] payload) hword0, payloadFits_of_length_eq hlen⟩

/-- Settles O2: an accepted word0 is the encoder's, and the operands and the payload are taken over as they stand. -/
theorem encodeOfDecodedIsTheDescriptor : Obligations.EncodeOfDecodedIsTheDescriptor := by
  intro d i h
  unfold decode at h
  split at h
  next => cases h
  next o ho => exact encode_of_readOperands (decodeWord0_ok ho) h

/-! ## Faults of the decoder -/

namespace Machine

/-- A live block that is given a descriptor which does not decode takes the descriptor off the port and does nothing but the
decoder's fault (R173 step 3). -/
theorem step_of_decode_error {s : State} {d : Descriptor} {rest : List HostEvent} {e : DecodeError} (hl : s.Live)
    (hq : s.hostIn = .issue d :: rest) (hd : decode d = .error e) : step s = decodeFailed e { s with hostIn := rest } := by
  simp [step, fetch, hq, deliver, hl.1, hl.2, hd]

/-- Settles O4: the opcode map has no row for exactly these opcodes, and word0 is decoded before anything else is read. -/
theorem reservedOpcodeFaults : Obligations.ReservedOpcodeFaults := by
  refine ⟨decodeWord0_reservedOpcode_iff, fun s d rest hl hq hreserved => ?_⟩
  have hd : decode d = .error .reservedOpcode :=
    decode_of_word0_error ((decodeWord0_reservedOpcode_iff d.word0).2 hreserved)
  rw [step_of_decode_error hl hq hd]
  rfl

/-- The rows with a payload, and FILL, by opcode (R73). -/
theorem opcode_format_by_code (o : Opcode) :
    (o.format ≠ .wp ↔ o.code ≠ 0x03#8 ∧ o.code ≠ 0x06#8 ∧ o.code ≠ 0x12#8) ∧ (o ≠ .fill ↔ o.code ≠ 0x10#8) := by
  cases o <;> decide

theorem extractLsb'_eight_eq_zero_iff (w : Word) : w.extractLsb' 8 1 = 0#1 ↔ w.getLsbD 8 = false := by
  have hcolor := colorField_field w
  rw [← BitVec.toNat_inj, ← hcolor, colorField]
  cases w.getLsbD 8 <;> decide

/-- R75 by field: RSV is 0, C is 0 but for FILL, LEN is 0 but for the payload operations. -/
theorem not_reservedFieldNonzero_iff (w : Word) :
    ¬ reservedFieldNonzero w ↔ rsvField w = 0#7 ∧ (opcField w ≠ 0x10#8 → w.getLsbD 8 = false) ∧
      (opcField w ≠ 0x03#8 ∧ opcField w ≠ 0x06#8 ∧ opcField w ≠ 0x12#8 → w.extractLsb' 16 16 = 0#16) := by
  rw [reservedFieldNonzero, not_or, not_or, not_not, not_and', not_and', not_not, Bool.not_eq_true]
  rfl

/-- For a listed opcode the mask form fails exactly on a nonzero reserved field (R75). -/
theorem mask_form_iff_not_reserved {w : Word} {o : Opcode} (ho : opcodeOf (opcField w) = some o) :
    w &&& o.mask = o.pattern ↔ ¬ reservedFieldNonzero w := by
  have hcode : opcField w = o.code := (opcodeOf_eq_some ho).symm
  obtain ⟨hpayload, hfill⟩ := opcode_format_by_code o
  rw [mask_form_iff, not_reservedFieldNonzero_iff, hpayload, hfill, extractLsb'_eight_eq_zero_iff, hcode]
  exact ⟨fun ⟨hlen, hrsv, hcolor, _⟩ => ⟨hrsv, hcolor, hlen⟩, fun ⟨hrsv, hcolor, hlen⟩ => ⟨hlen, hrsv, hcolor, rfl⟩⟩

/-- Settles O5: the mask covers exactly the fields that are reserved for the row. -/
theorem reservedFieldFaults : Obligations.ReservedFieldFaults := by
  refine ⟨fun w o ho => mask_form_iff_not_reserved ho, fun s d rest hl hq hlisted hfield => ?_⟩
  obtain ⟨o, ho⟩ : ∃ o, opcodeOf (opcField d.word0) = some o :=
    Option.ne_none_iff_exists'.1 (mt (opcodeOf_eq_none_iff _).1 hlisted)
  have hmask : ¬ d.word0 &&& o.mask = o.pattern := fun h => (mask_form_iff_not_reserved ho).1 h hfield
  rw [step_of_decode_error hl hq (decode_of_word0_error (decodeWord0_reservedField ho hmask))]
  rfl

/-- Settles O3: each word is read by the tables of R73. -/
theorem wordsOfTheOpcodeMapDecode : Obligations.WordsOfTheOpcodeMapDecode := by
  refine ⟨?_, ?_, ?_, ?_, ?_, ?_, ?_, ?_⟩ <;> decide

end Machine

end Sys2Proof
end

section
/-!
PROOFS. The pseudo-instructions SEND_ROW and ROW_CLEAR (spec 30_encoding.md R86), and the command bytes of the
framer (R81, R83).
-/

namespace Sys2Proof.Machine

/-! ## SEND_ROW -/

/-- A row of the right length, with a row still due and a bus that answers, is sent whole (R117). -/
theorem drawRowBody_sent {p : List Byte} {s : State} (hf : s.faulted = false) (ho : s.frameOpen = true)
    (hr : s.rowsSent ≠ s.config.height) (hp : p.length = s.config.rowBytes) (hok : s.busOkFor p.length = true) :
    drawRowBody p s = answer readyResult { sentOk (rowSequence p) s with rowsSent := s.rowsSent + 1 } := by
  have hsend : sendAll (rowSequence p) s = sentOk (rowSequence p) s := sendAll_ok _ s hf (by simpa using hok)
  simp [drawRowBody, ho, hr, hp, hsend, hf]

theorem sendRow_live {s : State} (hl : s.Live) :
    sendRow s = .next (drawRowBody s.rowBuf (answer (rowResult s.rowBuf) s)) := by
  have hl' : (answer (rowResult s.rowBuf) s).Live := hl
  simp only [sendRow, exec_live .rowRead s hl, opBody, rowReadBody]
  exact exec_live _ _ hl'

/-- Settles O34: ROW_READ answers with the buffer and changes nothing that DRAW_ROW tests; DRAW_ROW sends those bytes. -/
theorem sendRowSendsTheRowBuffer : Obligations.SendRowSendsTheRowBuffer := by
  intro s hl _ hform hbytes ho hr hok
  have hlen : s.rowBuf.length = s.config.rowBytes := ((Memory.wf_iff _ _).1 hform).trans hbytes
  have hsent := drawRowBody_sent (s := answer (rowResult s.rowBuf) s) hl.1 ho hr hlen (by rw [hlen]; exact hok)
  refine ⟨_, (sendRow_live hl).trans (congrArg _ hsent), hl, rfl, rfl, ?_⟩
  simp [State.trace, sentOk, rowSequence, okEvent, dataByte, Function.comp_def]

/-! ## ROW_CLEAR -/

/-- The byte of eight columns of one bit (R145). -/
def fillByte (b : Level) : Byte := if b = 1#1 then 0xFF#8 else 0x00#8

/-- A bit's place in its byte depends on its column within the byte alone (R52). -/
theorem bitpos_add_eight_mul (o : BitOrder) (k j : Nat) : bitpos o (8 * k + j) = bitpos o j := by
  cases o <;> simp [bitpos]

theorem columnBits_add_eight_mul (o : BitOrder) (k j n : Nat) : columnBits o (8 * k + j) n = columnBits o j n := by
  induction n generalizing j with
  | zero => rfl
  | succ n ih => rw [columnBits, columnBits, bitpos_add_eight_mul, Nat.add_assoc, ih]

/-- The mask of all the columns of one byte has every bit (R144). -/
theorem colmask_whole_byte (o : BitOrder) (k : Nat) : colmask o (8 * k) (8 * k + 7) = 0xFF#8 := by
  have hn : 8 * k + 7 + 1 - 8 * k = 8 := by omega
  rw [colmask, hn, show 8 * k = 8 * k + 0 from rfl, columnBits_add_eight_mul]
  cases o <;> decide

/-- Under a mask with every bit the byte's old content does not matter. -/
theorem applyMask_whole_byte (k : Nat) (b : Level) (m : Memory) : applyMask k 0xFF#8 b m = m.write k (fillByte b) := by
  have hor : m.read k ||| 0xFF#8 = 0xFF#8 := BitVec.or_allOnes
  have hand : m.read k &&& ~~~0xFF#8 = 0x00#8 := BitVec.and_zero
  rw [applyMask, hor, hand, fillByte]

/-- The last byte of an interior may be written by itself. -/
theorem fillBytes_succ_last (b : Level) (k n : Nat) (m : Memory) :
    fillBytes b k (n + 1) m = (fillBytes b k n m).write (k + n) (fillByte b) := by
  induction n generalizing k m with
  | zero => rfl
  | succ n ih => rw [fillBytes, ih, Nat.add_right_comm]; rfl

/-- A span of whole bytes is filled as an interior is: its edge masks have every bit (R145). -/
theorem fillSpan_whole_bytes (o : BitOrder) (b : Level) (k n : Nat) (m : Memory) :
    fillSpan o b (8 * k) (8 * (k + n) + 8) m = fillBytes b k (n + 1) m := by
  have hl : 8 * k / 8 = k := by omega
  have hr : (8 * (k + n) + 7) / 8 = k + n := by omega
  have hlast : 8 * (k + n) + 8 - 1 = 8 * (k + n) + 7 := rfl
  rw [fillSpan]
  simp only [hl, hlast, hr, colmask_whole_byte, applyMask_whole_byte]
  cases n with
  | zero => rw [Nat.add_zero, if_pos rfl, colmask_whole_byte, applyMask_whole_byte]; rfl
  | succ n =>
    have hinterior : k + (n + 1) - (k + 1) = n := by omega
    rw [if_neg (by omega), hinterior, fillBytes_succ_last]
    rfl

/-- Filled over its whole length, a buffer is that many copies of the colour's byte. -/
theorem fillBytes_whole (b : Level) (m : Memory) : fillBytes b 0 m.length m = List.replicate m.length (fillByte b) := by
  refine Memory.ext_read (by simp) fun j => ?_
  rw [fillBytes_read b 0 m.length m (by omega), Memory.read, Memory.read]
  by_cases hj : j < m.length <;> simp [hj, fillByte]

theorem fillSpan_whole (o : BitOrder) (b : Level) (m : Memory) (hm : 1 ≤ m.length) :
    fillSpan o b 0 (8 * m.length) m = List.replicate m.length (fillByte b) := by
  obtain ⟨n, hn⟩ := Nat.exists_eq_add_of_le' hm
  have hspan := fillSpan_whole_bytes o b 0 n m
  rw [← fillBytes_whole, hn, ← hspan, Nat.zero_add]
  rfl

theorem Interval.intersect_self (a : Interval) : a.intersect a = a := by
  simp [Interval.intersect, maxWord, minWord]

/-- A number of columns that fits a 32-bit signed bound is read back from it (R17). -/
theorem ofNat_toInt {n : Nat} (h : n < 2 ^ 31) : (BitVec.ofNat 32 n).toInt = n := by
  have hn : (BitVec.ofNat 32 n).toNat = n := by rw [BitVec.toNat_ofNat]; omega
  rw [BitVec.toInt_eq_toNat_of_lt (by omega), hn]

/-- FILL over the whole row buffer clears it to the colour's byte (R145). -/
theorem fillBody_whole (col : Color) {s : State} (hform : s.RowForm) (hbytes : 1 ≤ s.config.fillBytes)
    (hfits : s.config.columns < 2 ^ 31) {all : Interval} (hall : all = ⟨0#32, BitVec.ofNat 32 s.config.columns⟩) :
    fillBody col all all s = answer readyResult { s with
      rowBuf := List.replicate s.config.fillBytes (fillByte (cbit s.config.whiteBit col)) } := by
  have hlen : s.rowBuf.length = s.config.fillBytes := (Memory.wf_iff _ _).1 hform
  have hleft : all.left.toInt = 0 := by rw [hall]; rfl
  have hright : all.right.toInt = s.config.columns := by rw [hall]; exact ofNat_toInt hfits
  have hspan := fillSpan_whole s.config.bitOrder (cbit s.config.whiteBit col) s.rowBuf (hlen ▸ hbytes)
  have hcases := fillBody_cases col all all s
  rw [Interval.intersect_self, State.SpanFits, hleft, hright] at hcases
  rcases hcases with ⟨hempty, _⟩ | ⟨_, hout, _⟩ | ⟨_, _, he⟩
  · rw [Interval.empty_iff, hleft, hright, Config.columns] at hempty
    omega
  · exact absurd ⟨le_refl _, le_refl _⟩ hout
  · rw [he, Int.toNat_zero, Int.toNat_natCast, Config.columns, ← hlen, hspan]

/-- Settles O41: clip and span are both the whole buffer, which is a span of whole bytes. -/
theorem rowClearClearsTheRow : Obligations.RowClearClearsTheRow := by
  intro s col hl hform hwf hfits
  obtain ⟨_, _, hbytes, _, _⟩ := hwf
  exact (exec_live _ s hl).trans (congrArg _ (fillBody_whole col hform hbytes hfits rfl))

/-! ## The six commands -/

/-- A byte that the framer may send: data, or one of the six commands (R81, R83). -/
def Sendable (c : Config) (b : WireByte) : Prop := b.1 = 0#1 → b.2 ∈ commandCodes c

/-- An event that puts no other byte on the wire. -/
def Allowed (c : Config) (e : Event) : Prop := ∀ b, e.wireByte = some b → Sendable c b

/-- The invariant, event by event of the trace. -/
theorem commandForm_iff (s : State) : s.CommandForm ↔ ∀ e ∈ s.traceRev, Allowed s.config e := by
  simp only [State.CommandForm, State.wire, State.trace, List.mem_filterMap, List.mem_reverse, Allowed, Sendable]
  exact ⟨fun h e he b hb => h b ⟨e, he, hb⟩, fun h b ⟨e, he, hb⟩ => h e he b hb⟩

/-- Allowed events keep the invariant. -/
theorem State.CommandForm.append {s u : State} (h : s.CommandForm) (hc : u.config = s.config) (es : List Event)
    (htr : u.traceRev = es ++ s.traceRev) (hes : ∀ e ∈ es, Allowed s.config e) : u.CommandForm := by
  rw [commandForm_iff] at h ⊢
  rw [hc, htr]
  exact List.forall_mem_append.2 ⟨hes, h⟩

theorem allowed_of_no_byte (c : Config) {es : List Event} (h : ∀ e ∈ es, e.wireByte = none) : ∀ e ∈ es, Allowed c e :=
  fun e he b hb => by rw [h e he] at hb; cases hb

/-- A byte's event is allowed if the byte is, whatever the bus answered. -/
theorem Sendable.allowed {c : Config} {b : WireByte} (h : Sendable c b) (ok : Bool) : Allowed c (.byte b.1 b.2 ok) := by
  rintro _ ⟨⟩
  exact h

theorem State.CommandForm.sentOk {s : State} (h : s.CommandForm) {bs : List WireByte} (hbs : ∀ b ∈ bs, Sendable s.config b) :
    (sentOk bs s).CommandForm := by
  refine h.append rfl (bs.map okEvent).reverse rfl fun e he => ?_
  obtain ⟨b, hb, rfl⟩ := List.mem_map.1 (List.mem_reverse.1 he)
  exact (hbs b hb).allowed true

/-- A sequence cut off at byte `k` put bytes of that sequence on the wire. -/
theorem State.CommandForm.sentFail {s : State} (h : s.CommandForm) {bs : List WireByte} (hbs : ∀ b ∈ bs, Sendable s.config b)
    (k : Nat) {b : WireByte} (hb : b ∈ bs) : (raise .commFault (sentFail bs k b s)).CommandForm := by
  have htaken : (Machine.sentOk (bs.take k) s).CommandForm := h.sentOk fun b hb => hbs b (List.mem_of_mem_take hb)
  exact htaken.append (u := Machine.raise .commFault (Machine.sentFail bs k b s)) rfl [.byte b.1 b.2 false] rfl
    (List.forall_mem_singleton.2 ((hbs b hb).allowed false))

/-! The framer's sequences (R112, R113, R116 to R118). -/

theorem sendable_dataByte (c : Config) (v : Byte) : Sendable c (dataByte v) := fun h => absurd h (by simp [dataByte])

theorem sendable_cmdByte_iff {c : Config} {v : Byte} : Sendable c (cmdByte v) ↔ v ∈ commandCodes c := by
  simp [Sendable, cmdByte]

theorem sendable_boosterSequence (c : Config) : ∀ b ∈ boosterSequence c, Sendable c b := by
  simp [boosterSequence, sendable_dataByte, sendable_cmdByte_iff, commandCodes]

theorem sendable_panelSequence (c : Config) : ∀ b ∈ panelSequence c, Sendable c b := by
  simp [panelSequence, sendable_dataByte, sendable_cmdByte_iff, commandCodes]

theorem sendable_frameStartSequence (c : Config) : ∀ b ∈ frameStartSequence c, Sendable c b := by
  simp [frameStartSequence, sendable_cmdByte_iff, commandCodes]

theorem sendable_rowSequence (c : Config) (p : List Byte) : ∀ b ∈ rowSequence p, Sendable c b :=
  List.forall_mem_map.2 fun v _ => sendable_dataByte c v

theorem sendable_frameEndSequence (c : Config) : ∀ b ∈ frameEndSequence c, Sendable c b := by
  have hplane : ∀ b ∈ List.replicate c.planeBytes (dataByte redPlaneByte), Sendable c b := fun b hb =>
    List.eq_of_mem_replicate hb ▸ sendable_dataByte c redPlaneByte
  have hrefresh : Sendable c (cmdByte c.opDisplayRefresh) := sendable_cmdByte_iff.2 (by simp [commandCodes])
  exact List.forall_mem_cons.2 ⟨sendable_cmdByte_iff.2 (by simp [commandCodes]),
    List.forall_mem_append.2 ⟨hplane, List.forall_mem_singleton.2 hrefresh⟩⟩

/-- A sample or a poll puts nothing on the wire, and INIT's sequences are of the six commands and data (R109). -/
theorem InitTurn.commandForm {s : State} {stop go : Option State} (turn : InitTurn s stop go) (h : s.CommandForm) :
    ∀ u, stop = some u ∨ go = some u → u.CommandForm := by
  have hbusy : (sampleBusy s).CommandForm := h.append rfl [_] rfl (allowed_of_no_byte _ (by simp [Event.wireByte]))
  have hpoll : (timerPoll s).CommandForm := h.append rfl [_] rfl (allowed_of_no_byte _ (by simp [Event.wireByte]))
  cases turn <;> rintro u (hu | hu) <;> cases hu
  case ready.inl => exact h
  case busy0.inl | busy3.inl => exact hbusy
  case wait1.inl | wait2.inl => exact hpoll
  case leave0.inr => exact hbusy.append rfl [_, _] rfl (allowed_of_no_byte _ (by simp [Event.wireByte]))
  case leave1.inr => exact hpoll.append rfl [_, _] rfl (allowed_of_no_byte _ (by simp [Event.wireByte]))
  case leave2.inr => exact hpoll.sentOk (sendable_boosterSequence _)
  case fail2.inl => exact hpoll.sentFail (sendable_boosterSequence _) _ (List.getElem_mem _)
  case leave3.inr => exact hbusy.sentOk (sendable_panelSequence _)
  case fail3.inl => exact hbusy.sentFail (sendable_panelSequence _) _ (List.getElem_mem _)

/-- Settles O55: every byte the framer exchanges is of one of its five sequences, whole or cut off. -/
theorem stepKeepsTheSixCommands : Obligations.StepKeepsTheSixCommands := by
  intro s t h hs
  refine step_keeps State.CommandForm (queue := fun _ _ h => h) (result := fun _ _ h => h)
    (reset := fun _ _ => (commandForm_iff _).2 (by simp)) (decodeFault := fun _ _ _ _ h => h) (body := ?_) s t h hs
  exact opBody_keeps State.CommandForm
    (result := fun _ _ h => h)
    (stop := fun _ u _ h turn => turn.commandForm h u (.inl rfl))
    (go := fun _ u _ h turn => turn.commandForm h u (.inr rfl))
    (check := fun _ _ _ _ _ h => h)
    (refusal := fun _ _ h => h)
    (sample := fun _ _ h => h.append rfl [_] rfl (allowed_of_no_byte _ (by simp [Event.wireByte])))
    (start := fun s _ _ _ h =>
      ⟨(h.sentOk (sendable_frameStartSequence s.config)).append rfl [.delay frameSettleMs] rfl
          (allowed_of_no_byte _ (by simp [Event.wireByte])),
        h.sentFail (sendable_frameStartSequence s.config) 0 (List.mem_singleton_self _)⟩)
    (row := fun s p _ _ _ _ h =>
      ⟨h.sentOk (sendable_rowSequence s.config p),
        fun k hk => h.sentFail (sendable_rowSequence s.config p) k (List.mem_map_of_mem (List.getElem_mem hk))⟩)
    (finish := fun s _ _ _ h =>
      ⟨(h.sentOk (sendable_frameEndSequence s.config)).append rfl [.delay refreshGraceMs] rfl
          (allowed_of_no_byte _ (by simp [Event.wireByte])),
        fun k hk => h.sentFail (sendable_frameEndSequence s.config) k (List.getElem_mem hk)⟩)
    (buffer := fun _ _ _ _ h => h)

end Sys2Proof.Machine
end

section
/-!
PROOFS. What the framer's trace records of a run (spec 40_framer.md R115, R123): the grammar of the panel wire, and the
reset-line levels and timer periods of the initialisation.
-/

namespace Sys2Proof.Machine

/-! ## What a trace that grew holds -/

theorem filterMap_trace_append {α : Type} (f : Event → Option α) {s u : State} (es : List Event)
    (htr : u.traceRev = es ++ s.traceRev) :
    u.trace.filterMap f = s.trace.filterMap f ++ es.reverse.filterMap f := by
  simp [State.trace, htr]

/-- Events that are no byte exchange leave the wire as it is. -/
theorem wire_eq_of_no_byte {s u : State} (es : List Event) (htr : u.traceRev = es ++ s.traceRev)
    (hes : es.filterMap Event.wireByte = []) : u.wire = s.wire := by
  simp only [State.wire, filterMap_trace_append _ es htr, List.filterMap_reverse, hes]
  simp

theorem filterMap_wireByte_okEvents (bs : List WireByte) : (bs.map okEvent).filterMap Event.wireByte = bs := by
  rw [List.filterMap_map]
  exact List.filterMap_some

@[simp] theorem wire_sentOk (bs : List WireByte) (s : State) : (sentOk bs s).wire = s.wire ++ bs := by
  rw [State.wire, filterMap_trace_append _ (bs.map okEvent).reverse rfl, List.reverse_reverse, filterMap_wireByte_okEvents]
  rfl

/-- A sequence cut off at byte `k` put bytes 0 to `k` on the wire (R104). -/
theorem wire_raise_sentFail (bs : List WireByte) (k : Nat) (hk : k < bs.length) (s : State) :
    (raise .commFault (sentFail bs k bs[k] s)).wire = s.wire ++ bs.take (k + 1) := by
  have hlast : (raise .commFault (sentFail bs k bs[k] s)).wire = (sentOk (bs.take k) s).wire ++ [bs[k]] :=
    filterMap_trace_append _ [.byte bs[k].1 bs[k].2 false] rfl
  rw [hlast, wire_sentOk, List.append_assoc, List.take_append_getElem hk]

/-! ## The shape of the wire -/

/-- Outside a frame no row has been sent. -/
theorem WireShape.rowsSent_closed {c : Config} {i : InitState} {n : Nat} {w : List WireByte}
    (h : WireShape c i false n w) : n = 0 := by
  cases h <;> rfl

theorem WireShape.rowsSent_le {c : Config} {i : InitState} {f : Bool} {n : Nat} {w : List WireByte}
    (h : WireShape c i f n w) : n ≤ c.height := by
  cases h
  case row hn _ => exact hn
  all_goals exact Nat.zero_le _

/-- A frame is open only after initialisation. -/
theorem WireShape.initialized_of_open {c : Config} {i : InitState} {n : Nat} {w : List WireByte}
    (h : WireShape c i true n w) : i = .initialized := by
  cases h <;> rfl

theorem WireShape.leaveUninit {c : Config} {f : Bool} {n : Nat} {w : List WireByte} (h : WireShape c .uninit f n w) :
    WireShape c .resetting1 f n w := by
  cases h
  exact .resetting1

theorem WireShape.leaveResetting1 {c : Config} {f : Bool} {n : Nat} {w : List WireByte}
    (h : WireShape c .resetting1 f n w) : WireShape c .resetting2 f n w := by
  cases h
  exact .resetting2

theorem WireShape.leaveResetting2 {c : Config} {f : Bool} {n : Nat} {w : List WireByte}
    (h : WireShape c .resetting2 f n w) : WireShape c .resetting3 f n (w ++ boosterSequence c) := by
  cases h
  exact .resetting3

theorem WireShape.leaveResetting3 {c : Config} {f : Bool} {n : Nat} {w : List WireByte}
    (h : WireShape c .resetting3 f n w) : WireShape c .initialized f n (w ++ panelSequence c) := by
  cases h
  exact .initialized

/-! ## The wire's invariant -/

/-- Without a fault the invariant is the shape alone. -/
theorem State.wireForm_iff_of_not_faulted {s : State} (hf : s.faulted = false) :
    s.WireForm ↔ WireShape s.config s.initState s.frameOpen s.rowsSent s.wire := by
  simp [State.WireForm, hf]

theorem WireShape.wireForm {c : Config} {i : InitState} {f : Bool} {n : Nat} {w : List WireByte} (h : WireShape c i f n w)
    {u : State} (hf : u.faulted = false)
    (hu : u.config = c ∧ u.initState = i ∧ u.frameOpen = f ∧ u.rowsSent = n) (hw : u.wire = w) : u.WireForm := by
  obtain ⟨rfl, rfl, rfl, rfl⟩ := hu
  subst hw
  exact (State.wireForm_iff_of_not_faulted hf).2 h

/-- A fault of a check or of the decoder cuts nothing off: the wire is whole as it stands. -/
theorem State.WireForm.raise {s : State} (h : s.WireForm) (hf : s.faulted = false) (c : Cause) : (raise c s).WireForm :=
  ⟨by simp, fun _ => ⟨_, _, _, [], by rw [List.append_nil]; exact h.1 hf⟩⟩

/-- A group of bytes cut off at byte `k` is the beginning of the wire with the whole group (R104). -/
theorem WireShape.cutOff {s : State} {bs : List WireByte} {i : InitState} {f : Bool} {n : Nat}
    (h : WireShape s.config i f n (s.wire ++ bs)) (k : Nat) (hk : k < bs.length) :
    (raise .commFault (sentFail bs k bs[k] s)).WireForm := by
  refine ⟨by simp, fun _ => ⟨i, f, n, bs.drop (k + 1), ?_⟩⟩
  rw [wire_raise_sentFail, List.append_assoc, List.take_append_drop]
  exact h

/-- Each turn of INIT leaves the wire alone or adds its transition's whole sequence, or that sequence cut off (R109). -/
theorem InitTurn.wireForm {s : State} {stop go : Option State} (turn : InitTurn s stop go) (hf : s.faulted = false)
    (h : s.WireForm) : ∀ u, stop = some u ∨ go = some u → u.WireForm := by
  have shape := (State.wireForm_iff_of_not_faulted hf).1 h
  have hbusy : (sampleBusy s).wire = s.wire := wire_eq_of_no_byte [.busy s.busyLevel] rfl rfl
  have hpoll : (timerPoll s).wire = s.wire := wire_eq_of_no_byte [.timerPoll s.timerExpired] rfl rfl
  cases turn <;> rintro u (hu | hu) <;> cases hu
  case ready.inl => exact h
  case busy0.inl | busy3.inl => exact shape.wireForm hf ⟨rfl, rfl, rfl, rfl⟩ hbusy
  case wait1.inl | wait2.inl => exact shape.wireForm hf ⟨rfl, rfl, rfl, rfl⟩ hpoll
  case leave0.inr hs _ =>
    rw [hs, ← hbusy] at shape
    exact shape.leaveUninit.wireForm hf ⟨rfl, rfl, rfl, rfl⟩ (wire_eq_of_no_byte [.timerStart resetLowMs, .rst 0#1] rfl rfl)
  case leave1.inr hs _ =>
    rw [hs, ← hpoll] at shape
    exact shape.leaveResetting1.wireForm hf ⟨rfl, rfl, rfl, rfl⟩
      (wire_eq_of_no_byte [.timerStart resetHighMs, .rst 1#1] rfl rfl)
  case leave2.inr hs _ _ =>
    rw [hs, ← hpoll] at shape
    exact shape.leaveResetting2.wireForm hf ⟨rfl, rfl, rfl, rfl⟩ (wire_sentOk _ (timerPoll s))
  case fail2.inl hs _ k hk _ _ =>
    rw [hs, ← hpoll] at shape
    exact WireShape.cutOff (s := timerPoll s) shape.leaveResetting2 k hk
  case leave3.inr hs _ _ =>
    rw [hs, ← hbusy] at shape
    exact shape.leaveResetting3.wireForm hf ⟨rfl, rfl, rfl, rfl⟩ (wire_sentOk _ (sampleBusy s))
  case fail3.inl hs _ k hk _ _ =>
    rw [hs, ← hbusy] at shape
    exact WireShape.cutOff (s := sampleBusy s) shape.leaveResetting3 k hk

/-- The wire after a whole sequence and a delay. -/
theorem wire_delay_sentOk (ms : Nat) (bs : List WireByte) (s : State) : (delay ms (sentOk bs s)).wire = s.wire ++ bs :=
  (wire_eq_of_no_byte [.delay ms] rfl rfl).trans (wire_sentOk bs s)

/-- START_FRAME's command, whole or failed (R116). -/
theorem State.WireForm.startFrame {s : State} (h : s.WireForm) (hf : s.faulted = false) (hi : s.initState = .initialized)
    (ho : s.frameOpen = false) :
    State.WireForm { delay frameSettleMs (sentOk (frameStartSequence s.config) s) with frameOpen := true, rowsSent := 0 } ∧
      (Machine.raise .commFault (sentFail (frameStartSequence s.config) 0 (cmdByte s.config.opDtm1) s)).WireForm := by
  have shape := (State.wireForm_iff_of_not_faulted hf).1 h
  rw [hi, ho] at shape
  have whole := WireShape.start _ (shape.rowsSent_closed ▸ shape)
  exact ⟨whole.wireForm hf ⟨rfl, hi, rfl, rfl⟩ (wire_delay_sentOk frameSettleMs _ s), whole.cutOff 0 Nat.zero_lt_one⟩

/-- A row of DRAW_ROW, whole or cut off (R117). -/
theorem State.WireForm.drawRow {s : State} (h : s.WireForm) (hf : s.faulted = false) (ho : s.frameOpen = true)
    (hr : s.rowsSent ≠ s.config.height) {p : List Byte} (hp : p.length = s.config.rowBytes) :
    State.WireForm { sentOk (rowSequence p) s with rowsSent := s.rowsSent + 1 } ∧
      ∀ k, (hk : k < p.length) → (Machine.raise .commFault (sentFail (rowSequence p) k (dataByte p[k]) s)).WireForm := by
  have shape := (State.wireForm_iff_of_not_faulted hf).1 h
  rw [ho] at shape
  have hi := shape.initialized_of_open
  have whole := WireShape.row _ _ p hp (Nat.lt_of_le_of_ne shape.rowsSent_le hr) (hi ▸ shape)
  refine ⟨whole.wireForm hf ⟨rfl, hi, ho, rfl⟩ (wire_sentOk _ s), fun k hk => ?_⟩
  have hbyte : dataByte p[k] = (rowSequence p)[k]'(by simpa using hk) := by simp [rowSequence]
  rw [hbyte]
  exact whole.cutOff k _

/-- END_FRAME's sequence, whole or cut off (R118). -/
theorem State.WireForm.endFrame {s : State} (h : s.WireForm) (hf : s.faulted = false) (ho : s.frameOpen = true)
    (hr : s.rowsSent = s.config.height) :
    State.WireForm { delay refreshGraceMs (sentOk (frameEndSequence s.config) s) with frameOpen := false, rowsSent := 0 } ∧
      ∀ k, (hk : k < (frameEndSequence s.config).length) →
        (Machine.raise .commFault (sentFail (frameEndSequence s.config) k (frameEndSequence s.config)[k] s)).WireForm := by
  have shape := (State.wireForm_iff_of_not_faulted hf).1 h
  rw [ho, hr] at shape
  have hi := shape.initialized_of_open
  have whole := WireShape.finish _ (hi ▸ shape)
  exact ⟨whole.wireForm hf ⟨rfl, hi, rfl, rfl⟩ (wire_delay_sentOk refreshGraceMs _ s), whole.cutOff⟩

/-- Settles O53: every sequence the framer sends is the next group of the grammar where it is sent, and a failed exchange
leaves that group's beginning. -/
theorem stepKeepsTheWireGrammar : Obligations.StepKeepsTheWireGrammar := by
  intro s t h hs
  refine step_keeps State.WireForm (queue := fun _ _ h => h) (result := fun _ _ h => h)
    (reset := fun _ _ => ⟨fun _ => .uninit, by simp⟩) (decodeFault := fun _ c hl _ h => h.raise hl.1 c) (body := ?_) s t h hs
  exact opBody_keeps State.WireForm
    (result := fun _ _ h => h)
    (stop := fun _ u hf h turn => turn.wireForm hf h u (.inl rfl))
    (go := fun _ u hf h turn => turn.wireForm hf h u (.inr rfl))
    (check := fun _ c hf _ _ h => h.raise hf c)
    (refusal := fun _ _ h => h)
    (sample := fun s hf h =>
      (h.1 hf).wireForm hf ⟨rfl, rfl, rfl, rfl⟩ (wire_eq_of_no_byte [.busy s.busyLevel] rfl rfl))
    (start := fun _ hf hi ho h => h.startFrame hf hi ho)
    (row := fun _ _ hf ho hr hp h => h.drawRow hf ho hr hp)
    (finish := fun _ hf ho hr h => h.endFrame hf ho hr)
    (buffer := fun _ _ _ _ h => h)

/-! ## The initialisation's record -/

/-- The record of a trace that grew: the events added are those that init_state's move calls for. -/
theorem State.InitForm.append {s u : State} (h : s.InitForm) (es : List Event) (htr : u.traceRev = es ++ s.traceRev)
    (hrst : rstLevels s.initState ++ es.reverse.filterMap Event.rstLevel = rstLevels u.initState)
    (hstart : startPeriods s.initState ++ es.reverse.filterMap Event.startPeriod = startPeriods u.initState) :
    u.InitForm := by
  obtain ⟨hlevels, hperiods⟩ := h
  exact ⟨by rw [filterMap_trace_append _ es htr, hlevels, hrst], by rw [filterMap_trace_append _ es htr, hperiods, hstart]⟩

/-- A sample, a poll or a delay is no part of the record. -/
theorem State.InitForm.unrecorded {s u : State} (h : s.InitForm) (hi : u.initState = s.initState) (e : Event)
    (htr : u.traceRev = e :: s.traceRev) (hrst : e.rstLevel = none) (hstart : e.startPeriod = none) : u.InitForm :=
  h.append [e] htr (by simp [hrst, hi]) (by simp [hstart, hi])

/-- A sequence of bytes is no part of the record. -/
theorem State.InitForm.sentOk {s : State} (h : s.InitForm) (bs : List WireByte) : (sentOk bs s).InitForm :=
  h.append (bs.map okEvent).reverse rfl (by simp [okEvent, Function.comp_def, Event.rstLevel])
    (by simp [okEvent, Function.comp_def, Event.startPeriod])

theorem State.InitForm.sentFail {s : State} (h : s.InitForm) (bs : List WireByte) (k : Nat) (b : WireByte) :
    (raise .commFault (sentFail bs k b s)).InitForm :=
  (h.sentOk (bs.take k)).unrecorded (u := raise .commFault (Machine.sentFail bs k b s)) rfl (.byte b.1 b.2 false) rfl rfl rfl

/-- Only the first two transitions of INIT drive the reset line and start the timer (R110, R111). -/
theorem InitTurn.initForm {s : State} {stop go : Option State} (turn : InitTurn s stop go) (h : s.InitForm) :
    ∀ u, stop = some u ∨ go = some u → u.InitForm := by
  have hbusy : (sampleBusy s).InitForm := h.unrecorded rfl (.busy s.busyLevel) rfl rfl rfl
  have hpoll : (timerPoll s).InitForm := h.unrecorded rfl (.timerPoll s.timerExpired) rfl rfl rfl
  cases turn <;> rintro u (hu | hu) <;> cases hu
  case ready.inl => exact h
  case busy0.inl | busy3.inl => exact hbusy
  case wait1.inl | wait2.inl => exact hpoll
  case leave0.inr hs _ =>
    exact hbusy.append [.timerStart resetLowMs, .rst 0#1] rfl (by simp only [sampleBusy_initState, hs]; rfl)
      (by simp only [sampleBusy_initState, hs]; rfl)
  case leave1.inr hs _ =>
    exact hpoll.append [.timerStart resetHighMs, .rst 1#1] rfl (by simp only [timerPoll_initState, hs]; rfl)
      (by simp only [timerPoll_initState, hs]; rfl)
  case leave2.inr hs _ _ =>
    exact (hpoll.sentOk (boosterSequence s.config)).append [] rfl
      (by simp only [sentOk_initState, timerPoll_initState, hs]; rfl)
      (by simp only [sentOk_initState, timerPoll_initState, hs]; rfl)
  case fail2.inl => exact hpoll.sentFail _ _ _
  case leave3.inr hs _ _ =>
    exact (hbusy.sentOk (panelSequence s.config)).append [] rfl
      (by simp only [sentOk_initState, sampleBusy_initState, hs]; rfl)
      (by simp only [sentOk_initState, sampleBusy_initState, hs]; rfl)
  case fail3.inl => exact hbusy.sentFail _ _ _

/-- Settles O54: the frame operations add bytes, samples and delays alone, and INIT's record moves with init_state. -/
theorem stepKeepsTheInitRecord : Obligations.StepKeepsTheInitRecord := by
  intro s t h hs
  refine step_keeps State.InitForm (queue := fun _ _ h => h) (result := fun _ _ h => h)
    (reset := fun _ _ => ⟨rfl, rfl⟩) (decodeFault := fun _ _ _ _ h => h) (body := ?_) s t h hs
  exact opBody_keeps State.InitForm
    (result := fun _ _ h => h)
    (stop := fun _ u _ h turn => turn.initForm h u (.inl rfl))
    (go := fun _ u _ h turn => turn.initForm h u (.inr rfl))
    (check := fun _ _ _ _ _ h => h)
    (refusal := fun _ _ h => h)
    (sample := fun s _ h => h.unrecorded rfl (.busy s.busyLevel) rfl rfl rfl)
    (start := fun s _ _ _ h =>
      ⟨(h.sentOk (frameStartSequence s.config)).unrecorded rfl (.delay frameSettleMs) rfl rfl rfl, h.sentFail _ _ _⟩)
    (row := fun _ p _ _ _ _ h => ⟨h.sentOk (rowSequence p), fun _ _ => h.sentFail _ _ _⟩)
    (finish := fun s _ _ _ h =>
      ⟨(h.sentOk (frameEndSequence s.config)).unrecorded rfl (.delay refreshGraceMs) rfl rfl rfl,
        fun _ _ => h.sentFail _ _ _⟩)
    (buffer := fun _ _ _ _ h => h)

end Sys2Proof.Machine
end

section
/-!
PROOFS. The framer's primitives and byte sequences (spec 40_framer.md R100 to R108), the transitions and the answers of INIT
(R109 to R114), and the refused partial-refresh operations (R119 to R121).
-/

namespace Sys2Proof.Machine

/-! ## Primitives -/

theorem sampleBusy_of_level {s : State} {l : Level} (h : s.busyLevel = l) :
    sampleBusy s = { s with busyIn := s.busyIn.tail, traceRev := .busy l :: s.traceRev } := by
  subst h
  rfl

theorem timerPoll_of_expired {s : State} (h : s.timerExpired = true) :
    timerPoll s =
      { s with timerRunning := false, timerIn := s.timerIn.tail, traceRev := .timerPoll true :: s.traceRev } := by
  simp [timerPoll, emit, h]

theorem timerPoll_of_not_expired {s : State} (h : s.timerExpired = false) :
    timerPoll s = { s with timerIn := s.timerIn.tail, traceRev := .timerPoll false :: s.traceRev } := by
  simp [timerPoll, emit, h]

/-- Settles O15: each primitive is one update with its event. -/
theorem primitivesAppendTheirEvents : Obligations.PrimitivesAppendTheirEvents := fun _ =>
  ⟨rfl, fun _ => rfl, timerPoll_of_expired, timerPoll_of_not_expired, fun _ => rfl, fun _ => rfl⟩

/-! ## Byte sequences -/

/-- A nonempty sequence that all goes out leaves chip-select deasserted (R102). -/
theorem sentOk_of_ne_nil {bs : List WireByte} (hne : bs ≠ []) (s : State) :
    sentOk bs s = { s with
      dcOut := (bs.getLast?.map Prod.fst).getD s.dcOut
      csOut := .deasserted
      busIn := s.busIn.drop bs.length
      traceRev := (bs.map okEvent).reverse ++ s.traceRev } := by
  simp [sentOk, hne]

/-- Settles O17: a sequence goes out whole, or up to the first exchange that fails. -/
theorem byteSequenceStopsAtTheFirstFailure : Obligations.ByteSequenceStopsAtTheFirstFailure := by
  intro bs s hf hne
  refine ⟨fun hok => (sendAll_ok bs s hf hok).trans (sentOk_of_ne_nil hne s), fun k b hb hok hfail => ?_⟩
  obtain ⟨hk, rfl⟩ := List.getElem?_eq_some_iff.1 hb
  exact sendAll_fail bs s hf k hk ((State.busOkFor_iff s k).1 hok) hfail

/-- The trace of a sequence cut off at byte `k`: the bytes before it, then the failing one (R104). -/
theorem trace_raise_sentFail (bs : List WireByte) (k : Nat) (hk : k < bs.length) (s : State) :
    (raise .commFault (sentFail bs k bs[k] s)).trace =
      s.trace ++ (bs.take k).map (fun b => Event.byte b.1 b.2 true) ++
        (bs[k]?.map (fun b => Event.byte b.1 b.2 false)).toList := by
  have hok : okEvent = fun b => Event.byte b.1 b.2 true := rfl
  simp [State.trace, sentFail, hok, hk]

/-! ## INIT's loop, one equation for each initialisation state -/

section
variable (n : Nat) {s : State}

theorem initLoop_uninit (hs : s.initState = .uninit) :
    initLoop (n + 1) s = if s.busyLevel = 0#1 then sampleBusy s else initLoop n (leaveUninit (sampleBusy s)) := by
  simp [initLoop, hs]

theorem initLoop_resetting1 (hs : s.initState = .resetting1) :
    initLoop (n + 1) s = if s.timerExpired then initLoop n (leaveResetting1 (timerPoll s)) else timerPoll s := by
  simp [initLoop, hs]

theorem initLoop_resetting2_running (hs : s.initState = .resetting2) (ht : s.timerExpired = false) :
    initLoop (n + 1) s = timerPoll s := by
  simp [initLoop, hs, ht]

theorem initLoop_resetting2_sent (hf : s.faulted = false) (hs : s.initState = .resetting2) (ht : s.timerExpired = true)
    (hok : s.busOkFor 5 = true) :
    initLoop (n + 1) s =
      initLoop n { sentOk (boosterSequence s.config) (timerPoll s) with initState := .resetting3 } := by
  have hsend : sendAll (boosterSequence s.config) (timerPoll s) = sentOk (boosterSequence s.config) (timerPoll s) :=
    sendAll_ok _ _ hf hok
  simp [initLoop, hs, ht, leaveResetting2, hsend, hf]

theorem initLoop_resetting2_cut (hf : s.faulted = false) (hs : s.initState = .resetting2) (ht : s.timerExpired = true)
    {k : Nat} (hk : k < (boosterSequence s.config).length) (hok : s.busOkFor k = true) (hfail : s.busOk k = false) :
    initLoop (n + 1) s =
      raise .commFault (sentFail (boosterSequence s.config) k (boosterSequence s.config)[k] (timerPoll s)) := by
  have hsend := sendAll_fail (boosterSequence s.config) (timerPoll s) hf k hk ((State.busOkFor_iff s k).1 hok) hfail
  simp [initLoop, hs, ht, leaveResetting2, hsend]

theorem initLoop_resetting3_busy (hs : s.initState = .resetting3) (hb : s.busyLevel = 0#1) :
    initLoop (n + 1) s = sampleBusy s := by
  simp [initLoop, hs, hb]

theorem initLoop_resetting3_sent (hf : s.faulted = false) (hs : s.initState = .resetting3) (hb : s.busyLevel = 1#1)
    (hok : s.busOkFor 2 = true) :
    initLoop (n + 1) s = { sentOk (panelSequence s.config) (sampleBusy s) with initState := .initialized } := by
  have hsend : sendAll (panelSequence s.config) (sampleBusy s) = sentOk (panelSequence s.config) (sampleBusy s) :=
    sendAll_ok _ _ hf hok
  simp [initLoop, hs, hb, leaveResetting3, hsend, hf, initLoop_initialized]

theorem initLoop_resetting3_cut (hf : s.faulted = false) (hs : s.initState = .resetting3) (hb : s.busyLevel = 1#1)
    {k : Nat} (hk : k < (panelSequence s.config).length) (hok : s.busOkFor k = true) (hfail : s.busOk k = false) :
    initLoop (n + 1) s =
      raise .commFault (sentFail (panelSequence s.config) k (panelSequence s.config)[k] (sampleBusy s)) := by
  have hsend := sendAll_fail (panelSequence s.config) (sampleBusy s) hf k hk ((State.busOkFor_iff s k).1 hok) hfail
  simp [initLoop, hs, hb, leaveResetting3, hsend]

end

/-! ## INIT's transitions -/

/-- Settles O19: the sample decides between the end of the loop and the action of R110. -/
theorem initLeavesUninit : Obligations.InitLeavesUninit := by
  intro n s hs
  rw [initLoop_uninit n hs]
  refine ⟨fun hb => ?_, fun hb => ?_⟩
  · rw [if_pos hb, sampleBusy_of_level hb]
  · rw [if_neg (by rw [hb]; decide), sampleBusy_of_level hb]
    rfl

/-- Settles O20: the poll decides between the end of the loop and the action of R111. -/
theorem initLeavesResetting1 : Obligations.InitLeavesResetting1 := by
  intro n s hs
  rw [initLoop_resetting1 n hs]
  refine ⟨fun ht => ?_, fun ht => ?_⟩
  · rw [if_neg (by simp [ht]), timerPoll_of_not_expired ht]
  · rw [if_pos ht, timerPoll_of_expired ht]
    rfl

/-- Settles O21: on an expired poll the booster sequence goes out whole. -/
theorem initLeavesResetting2 : Obligations.InitLeavesResetting2 := by
  intro n s hf hs
  refine ⟨fun ht => ?_, fun ht hok => ?_⟩
  · rw [initLoop_resetting2_running n hs ht, timerPoll_of_not_expired ht]
  · rw [initLoop_resetting2_sent n hf hs ht hok, timerPoll_of_expired ht]
    rfl

/-- Settles O22: on an idle sample the panel-setting sequence goes out whole, and in INITIALIZED the loop is at its end. -/
theorem initLeavesResetting3 : Obligations.InitLeavesResetting3 := by
  intro n s hf hs
  refine ⟨fun hb => ?_, fun hb hok => ?_⟩
  · rw [initLoop_resetting3_busy n hs hb, sampleBusy_of_level hb]
  · rw [initLoop_resetting3_sent n hf hs hb hok, sampleBusy_of_level hb]
    rfl

/-- Settles O25: the sequence is cut off at its failing byte, before init_state is written (R104). -/
theorem initCommFaultKeepsTheState : Obligations.InitCommFaultKeepsTheState := by
  intro n k s hf hok hfail
  refine ⟨fun hs ht hk => ?_, fun hs hb hk => ?_⟩
  · have hk : k < (boosterSequence s.config).length := hk
    rw [initLoop_resetting2_cut n hf hs ht hk hok hfail]
    refine ⟨rfl, rfl, hs, ?_⟩
    rw [trace_raise_sentFail]
    simp [State.trace, ht]
  · have hk : k < (panelSequence s.config).length := hk
    rw [initLoop_resetting3_cut n hf hs hb hk hok hfail]
    refine ⟨rfl, rfl, hs, ?_⟩
    rw [trace_raise_sentFail]
    simp [State.trace, hb]

/-! ## INIT's answer -/

/-- A turn of INIT gives the host no result but a fault's (R109). -/
theorem InitTurn.resultsRev {s : State} {stop go : Option State} (turn : InitTurn s stop go) :
    ∀ u, stop = some u ∨ go = some u → u.faulted = false → u.resultsRev = s.resultsRev := by
  cases turn <;> rintro u (hu | hu) hf <;> cases hu
  case fail2.inl | fail3.inl => cases hf
  all_goals rfl

theorem initLoop_resultsRev (n : Nat) (s : State) (hf : s.faulted = false) :
    (initLoop n s).faulted = false → (initLoop n s).resultsRev = s.resultsRev :=
  initLoop_induction (fun u => u.faulted = false → u.resultsRev = s.resultsRev)
    (stop := fun _ u hv h turn hu => (turn.resultsRev u (.inl rfl) hu).trans (h hv))
    (go := fun _ u hv h turn hu => (turn.resultsRev u (.inr rfl) hu).trans (h hv)) n s hf (fun _ => rfl)

theorem initBody_of_loop {s u : State} (hs : s.initState ≠ .initialized)
    (hu : initLoop s.config.initMaxTransitions s = u) :
    initBody s =
      if u.faulted then u
      else if u.initState = .initialized then answer readyResult u else answer notReadyResult u := by
  subst hu
  simp [initBody, hs]

/-- Settles O23: by the end of R109's pseudocode; a loop that did not fault has given no result yet. -/
theorem initAnswersByItsState : Obligations.InitAnswersByItsState := by
  intro s hl
  rw [exec_live .init s hl, opBody]
  refine ⟨fun hi => by rw [initBody, if_pos hi]; rfl, fun u hu hs => ?_⟩
  have hres : u.faulted = false → u.resultsRev = s.resultsRev := hu ▸ initLoop_resultsRev _ s hl.1
  rw [initBody_of_loop hs hu]
  refine ⟨fun hf => by rw [if_pos hf], fun hf hi => ?_, fun hf hi => ?_⟩ <;> rw [if_neg (by simp [hf]), ← hres hf]
  · rw [if_pos hi]; rfl
  · rw [if_neg hi]; rfl

/-! ## One INIT from UNINIT to READY -/

theorem Tape.tail_eq_drop {α : Type} (t : Tape α) : t.tail = t.drop 1 := by
  rw [← t.tail.drop_zero, Tape.drop_tail]

/-- Exchanges that all succeed, some of them drawn already. -/
theorem busOkFor_of_drop {s u : State} {j n m : Nat} (h : s.busOkFor m = true) (hu : u.busIn = s.busIn.drop j)
    (hle : j + n ≤ m) : u.busOkFor n = true := by
  rw [State.busOkFor_iff] at h ⊢
  intro k hk
  have hok := h (j + k) (by omega)
  simpa [State.busOk, hu] using hok

theorem busOkFor_of_le {s : State} {n m : Nat} (h : s.busOkFor m = true) (hle : n ≤ m) : s.busOkFor n = true :=
  busOkFor_of_drop h s.busIn.drop_zero.symm (by omega)

/-- Settles O24: the four transitions one after the other, then the answer. -/
theorem initFallsThroughToReady : Obligations.InitFallsThroughToReady := by
  intro s hl hs hn hbusy0 hbusy1 htimer0 htimer1 hbus
  rw [Tape.nth_zero] at hbusy0 htimer0
  rw [← Tape.nth_tail, Tape.nth_zero] at hbusy1 htimer1
  obtain ⟨n, hn⟩ := Nat.exists_eq_add_of_le' hn
  have leave0 := (initLeavesUninit (n + 3) s hs).2 hbusy0
  have leave1 := leave0.trans ((initLeavesResetting1 (n + 2) _ rfl).2 htimer0)
  have leave2 := leave1.trans ((initLeavesResetting2 (n + 1) _ (by exact hl.1) rfl).2 htimer1
    (busOkFor_of_le hbus (by decide)))
  have leave3 := leave2.trans ((initLeavesResetting3 n _ (by exact hl.1) rfl).2 hbusy1
    (busOkFor_of_drop hbus rfl (by decide)))
  obtain ⟨_, ready, _⟩ := (initAnswersByItsState s hl).2 _ (hn ▸ leave3) (by rw [hs]; decide)
  rw [ready hl.1 rfl]
  simp only [Tape.tail_eq_drop, Tape.drop_drop]
  rfl

/-! ## The refused operations -/

/-- word0 of a payload operation: LEN above the opcode (R70). -/
theorem packWord0_len (o : Opcode) (n : Nat) : packWord0 o 0 n = (BitVec.ofNat 32 n <<< 16) ||| o.pattern := by
  have hsum : packWord0 o 0 n = (BitVec.ofNat 32 n <<< 16) + o.pattern := by
    apply BitVec.eq_of_toNat_eq
    simp [packWord0, Opcode.pattern, Nat.shiftLeft_eq]
    omega
  have hdisjoint : (BitVec.ofNat 32 n <<< 16) &&& o.pattern = 0#32 := by
    ext i hi
    by_cases h : i < 16
    · simp [h]
    · simp [Opcode.pattern, BitVec.getLsbD_of_ge o.code i (by omega)]
  rw [hsum, BitVec.add_eq_or_of_and_eq_zero _ _ hdisjoint]

/-- Settles O10: the three operations are the same refusal, and look at no operand. -/
theorem partialRefreshIsRefused : Obligations.PartialRefreshIsRefused := by
  intro s l t r b p hl
  refine ⟨exec_live _ s hl, exec_live _ s hl, exec_live _ s hl, rfl, ?_, rfl⟩
  exact congrArg (Descriptor.mk · [] p) (packWord0_len .drawPartialRow p.length)

end Sys2Proof.Machine
end

section
/-!
PROOFS. START_FRAME, DRAW_ROW and END_FRAME, each with its whole effect (spec 40_framer.md R116 to R118), and a complete
frame on the wire (R122).
-/

namespace Sys2Proof.Machine

/-! ## START_FRAME -/

/-- Settles O30: each branch of the statement is one path of R116. -/
theorem startFrameIsGatedByBusy : Obligations.StartFrameIsGatedByBusy := by
  refine ⟨rfl, fun s hl => ?_⟩
  rw [exec_live _ s hl, opBody]
  rcases startFrameBody_cases s hl.1 with ⟨hi, he⟩ | ⟨hi, ho, he⟩ | ⟨hi, ho, hb, he⟩ | ⟨hi, ho, hb, hok, he⟩ |
    ⟨hi, ho, hb, hok, he⟩ <;> rw [he]
  · rw [if_pos hi]; rfl
  · rw [if_neg (not_not_intro hi), if_pos ho]; rfl
  · rw [if_neg (not_not_intro hi), if_neg (by simp [ho]), if_pos hb, sampleBusy_of_level hb]; rfl
  · rw [if_neg (not_not_intro hi), if_neg (by simp [ho]), if_neg (by simp [hb]), if_neg (by simp [hok]),
      sampleBusy_of_level hb]
    simp only [Tape.tail_eq_drop]
    rfl
  · rw [if_neg (not_not_intro hi), if_neg (by simp [ho]), if_neg (by simp [hb]), if_pos hok, sampleBusy_of_level hb]
    simp only [Tape.tail_eq_drop]
    rfl

/-! ## DRAW_ROW -/

/-- A row cut off at its first failing byte (R117, R104). -/
theorem drawRowBody_cut {p : List Byte} {s : State} (hf : s.faulted = false) (ho : s.frameOpen = true)
    (hr : s.rowsSent ≠ s.config.height) (hp : p.length = s.config.rowBytes) {k : Nat} (hk : k < p.length)
    (hok : s.busOkFor k = true) (hfail : s.busOk k = false) :
    drawRowBody p s = raise .commFault (sentFail (rowSequence p) k (dataByte p[k]) s) := by
  have hsend := sendAll_fail (rowSequence p) s hf k (by simpa using hk) ((State.busOkFor_iff s k).1 hok) hfail
  have hbyte : (rowSequence p)[k]'(by simpa using hk) = dataByte p[k] := by simp [rowSequence]
  rw [hbyte] at hsend
  simp [drawRowBody, ho, hr, hp, hsend]

/-- The events of a row that is sent whole, or of its first bytes. -/
theorem okEvents_rowSequence (p : List Byte) : (rowSequence p).map okEvent = p.map (fun b => Event.byte 1#1 b true) := by
  simp [rowSequence, okEvent, dataByte, Function.comp_def]

/-- The last byte of a row is data: DC_OUT is 1 (R101). -/
theorem sentOk_rowSequence {p : List Byte} (hp : p ≠ []) (s : State) :
    sentOk (rowSequence p) s = { s with
      dcOut := 1#1
      csOut := .deasserted
      busIn := s.busIn.drop p.length
      traceRev := (p.map (fun b => Event.byte 1#1 b true)).reverse ++ s.traceRev } := by
  rw [sentOk_of_ne_nil (by simpa [rowSequence] using hp), okEvents_rowSequence, rowSequence_length]
  simp [rowSequence, List.getLast?_map, List.getLast?_eq_some_getLast hp, dataByte]

theorem rowSequence_take (p : List Byte) (k : Nat) : (rowSequence p).take k = rowSequence (p.take k) := by
  simp [rowSequence, List.map_take]

theorem rowBytes_pos {c : Config} (h : c.Wf) : 0 < c.rowBytes := by
  obtain ⟨hw, _⟩ := h
  simp only [Config.rowBytes]
  omega

/-- Settles O31: the checks in their order, then the row's bytes as one sequence. -/
theorem drawRowSendsTheRowVerbatim : Obligations.DrawRowSendsTheRowVerbatim := by
  refine ⟨fun p => congrArg (Descriptor.mk · [] p) (packWord0_len .drawRow p.length), fun s p hl hwf => ?_⟩
  rw [exec_live _ s hl, opBody]
  refine ⟨fun ho => ?_, fun ho hr => ?_, fun ho hr hp => ?_, fun ho hr hp => ?_, fun ho hr hp hok => ?_,
    fun k b ho hr hp hb hok hfail => ?_⟩
  · exact congrArg Host.Outcome.next (show drawRowBody p s = raise .noFrame s by simp [drawRowBody, ho])
  · exact congrArg Host.Outcome.next (show drawRowBody p s = raise .rowOverflow s by simp [drawRowBody, ho, hr])
  · exact congrArg Host.Outcome.next (show drawRowBody p s = raise .shortRow s by simp [drawRowBody, ho, hr, hp])
  · exact congrArg Host.Outcome.next
      (show drawRowBody p s = raise .longRow s by simp [drawRowBody, ho, hr, hp, Nat.lt_asymm hp])
  · have hne : p ≠ [] := List.ne_nil_of_length_pos (hp ▸ rowBytes_pos hwf)
    rw [drawRowBody_sent hl.1 ho hr hp (hp ▸ hok), sentOk_rowSequence hne, hp]
    rfl
  · obtain ⟨hk, rfl⟩ := List.getElem?_eq_some_iff.1 hb
    rw [drawRowBody_cut hl.1 ho hr hp hk hok hfail]
    simp only [sentFail, rowSequence_take, okEvents_rowSequence]
    rfl

/-! ## END_FRAME -/

/-- A whole secondary plane with the refresh (R118). -/
theorem endFrameBody_sent {s : State} (hf : s.faulted = false) (ho : s.frameOpen = true)
    (hr : s.rowsSent = s.config.height) (hok : s.busOkFor (s.config.planeBytes + 2) = true) :
    endFrameBody s = answer readyResult
      { delay refreshGraceMs (sentOk (frameEndSequence s.config) s) with frameOpen := false, rowsSent := 0 } := by
  have hsend : sendAll (frameEndSequence s.config) s = sentOk (frameEndSequence s.config) s :=
    sendAll_ok _ s hf (by simpa using hok)
  simp [endFrameBody, ho, hr, hsend, hf]

/-- END_FRAME's sequence cut off at its first failing byte (R118, R104). -/
theorem endFrameBody_cut {s : State} (hf : s.faulted = false) (ho : s.frameOpen = true)
    (hr : s.rowsSent = s.config.height) {k : Nat} (hk : k < (frameEndSequence s.config).length)
    (hok : s.busOkFor k = true) (hfail : s.busOk k = false) :
    endFrameBody s = raise .commFault (sentFail (frameEndSequence s.config) k (frameEndSequence s.config)[k] s) := by
  have hsend := sendAll_fail (frameEndSequence s.config) s hf k hk ((State.busOkFor_iff s k).1 hok) hfail
  simp [endFrameBody, ho, hr, hsend]

/-- The last byte of the sequence is the refresh command: DC_OUT is 0 (R101). -/
theorem sentOk_frameEndSequence (s : State) :
    sentOk (frameEndSequence s.config) s = { s with
      dcOut := 0#1
      csOut := .deasserted
      busIn := s.busIn.drop (s.config.planeBytes + 2)
      traceRev := .byte 0#1 s.config.opDisplayRefresh true ::
        (List.replicate s.config.planeBytes (Event.byte 1#1 0xFF#8 true) ++
          .byte 0#1 s.config.opDtm2 true :: s.traceRev) } := by
  rw [sentOk_of_ne_nil (by simp [frameEndSequence]), frameEndSequence_length]
  simp [frameEndSequence, okEvent, cmdByte, dataByte, redPlaneByte, List.getLast?_cons]

/-- Settles O32: the checks in their order, then the secondary plane and the refresh as one sequence. -/
theorem endFrameSendsTheSecondaryPlane : Obligations.EndFrameSendsTheSecondaryPlane := by
  refine ⟨rfl, fun s hl => ?_⟩
  rw [exec_live _ s hl, opBody]
  refine ⟨fun ho => ?_, fun ho hr => ?_, fun ho hr hok => ?_, fun k ho hr hk hok hfail => ?_⟩
  · exact congrArg Host.Outcome.next (show endFrameBody s = raise .noFrame s by simp [endFrameBody, ho])
  · exact congrArg Host.Outcome.next (show endFrameBody s = raise .frameIncomplete s by simp [endFrameBody, ho, hr])
  · rw [endFrameBody_sent hl.1 ho hr hok, sentOk_frameEndSequence]
    rfl
  · have hk : k < (frameEndSequence s.config).length := by simpa using hk
    rw [endFrameBody_cut hl.1 ho hr hk hok hfail]
    exact ⟨_, rfl, rfl, rfl, ho, rfl, trace_raise_sentFail _ k hk s⟩

/-! ## A complete frame -/

/-- START_FRAME on an idle busy input with its exchange good (R116). -/
theorem startFrameBody_sent {s : State} (hf : s.faulted = false) (hi : s.initState = .initialized)
    (ho : s.frameOpen = false) (hb : s.busyLevel = 1#1) (hok : s.busOkFor 1 = true) :
    startFrameBody s = answer readyResult
      { delay frameSettleMs (sentOk (frameStartSequence s.config) (sampleBusy s)) with frameOpen := true, rowsSent := 0 } := by
  have hsend : sendAll (frameStartSequence s.config) (sampleBusy s) = sentOk (frameStartSequence s.config) (sampleBusy s) :=
    sendAll_ok _ _ hf hok
  simp [startFrameBody, hi, ho, hb, hsend, hf]

/-- A frame under way in a live block of configuration `c`: `n` rows sent, `m` good exchanges to come, and the trace so
far. -/
structure State.InFrame (s : State) (c : Config) (n m : Nat) (tr : List Event) : Prop where
  live : s.Live
  config : s.config = c
  frameOpen : s.frameOpen = true
  rowsSent : s.rowsSent = n
  bus : s.busOkFor m = true
  trace : s.trace = tr

theorem startFrameBody_inFrame {s : State} (hl : s.Live) (hi : s.initState = .initialized) (ho : s.frameOpen = false)
    (hb : s.busyLevel = 1#1) {m : Nat} (hok : s.busOkFor (1 + m) = true) :
    (startFrameBody s).InFrame s.config 0 m
      (s.trace ++ [Event.busy 1#1, Event.byte 0#1 s.config.opDtm1 true, Event.delay 2]) := by
  rw [startFrameBody_sent hl.1 hi ho hb (busOkFor_of_le hok (by omega))]
  refine ⟨hl, rfl, rfl, rfl, busOkFor_of_drop (j := 1) hok rfl (le_refl _), ?_⟩
  simp [State.trace, sentOk, hb, frameStartSequence, okEvent, cmdByte, frameSettleMs]

theorem State.InFrame.drawRow {s : State} {c : Config} {n m : Nat} {tr : List Event} {p : List Byte}
    (h : s.InFrame c n (c.rowBytes + m) tr) (hn : n ≠ c.height) (hp : p.length = c.rowBytes) :
    (drawRowBody p s).InFrame c (n + 1) m (tr ++ p.map (fun b => Event.byte 1#1 b true)) := by
  obtain ⟨hl, rfl, ho, rfl, hok, rfl⟩ := h
  rw [drawRowBody_sent hl.1 ho hn hp (busOkFor_of_le hok (by omega))]
  refine ⟨hl, rfl, ho, rfl, busOkFor_sentOk (rowSequence p) s m (by rwa [rowSequence_length, hp]), ?_⟩
  simp [State.trace, sentOk, okEvents_rowSequence]

theorem runAll_cons_live (i : Instr) (is : List Instr) {s : State} (hl : s.Live) :
    runAll (i :: is) s = runAll is (opBody i s) := by
  rw [runAll, exec_live i s hl]

/-- Rows drawn one after the other, before any further operations (R117). -/
theorem State.InFrame.drawRows {c : Config} {m : Nat} (rows : List (List Byte)) {s : State} {n : Nat} {tr : List Event}
    (h : s.InFrame c n (c.rowBytes * rows.length + m) tr) (hn : n + rows.length ≤ c.height)
    (hp : ∀ p ∈ rows, p.length = c.rowBytes) :
    ∃ u : State, u.InFrame c (n + rows.length) m (tr ++ rows.flatten.map (fun b => Event.byte 1#1 b true)) ∧
      ∀ is, runAll (rows.map .drawRow ++ is) s = runAll is u := by
  induction rows generalizing s n tr with
  | nil => exact ⟨s, by simpa using h, fun _ => rfl⟩
  | cons p rows ih =>
    simp only [List.length_cons] at h hn ⊢
    have hlen : c.rowBytes * (rows.length + 1) + m = c.rowBytes + (c.rowBytes * rows.length + m) := by ring
    obtain ⟨u, hu, hrun⟩ := ih ((hlen ▸ h).drawRow (by omega) (hp p (by simp))) (by omega)
      (fun q hq => hp q (by simp [hq]))
    refine ⟨u, ?_, fun is => ?_⟩
    · rw [Nat.add_assoc, Nat.add_comm 1] at hu
      simpa using hu
    · rw [List.map_cons, List.cons_append, runAll_cons_live _ _ h.live]
      exact hrun is

/-- END_FRAME after the last row (R118). -/
theorem State.InFrame.endFrame {s : State} {c : Config} {tr : List Event}
    (h : s.InFrame c c.height (c.planeBytes + 2) tr) :
    (endFrameBody s).Live ∧ (endFrameBody s).frameOpen = false ∧ (endFrameBody s).rowsSent = 0 ∧
      (endFrameBody s).trace = tr ++ [Event.byte 0#1 c.opDtm2 true] ++
        List.replicate c.planeBytes (Event.byte 1#1 0xFF#8 true) ++
        [Event.byte 0#1 c.opDisplayRefresh true, Event.delay 10] := by
  obtain ⟨hl, rfl, ho, hr, hok, rfl⟩ := h
  rw [endFrameBody_sent hl.1 ho hr hok]
  refine ⟨hl, rfl, rfl, ?_⟩
  simp [State.trace, sentOk_frameEndSequence, refreshGraceMs]

theorem filterMap_wireByte_dataEvents (bs : List Byte) :
    (bs.map (fun b => Event.byte 1#1 b true)).filterMap Event.wireByte = rowSequence bs := by
  rw [← okEvents_rowSequence, filterMap_wireByte_okEvents]

/-- The bytes of a complete frame's events (R122). -/
theorem wire_of_frame_trace {s t : State} {c : Config} {bs : List Byte}
    (h : t.trace = s.trace ++ [Event.busy 1#1, Event.byte 0#1 c.opDtm1 true, Event.delay 2] ++
      bs.map (fun b => Event.byte 1#1 b true) ++ [Event.byte 0#1 c.opDtm2 true] ++ List.replicate c.planeBytes (Event.byte 1#1 0xFF#8 true) ++
      [Event.byte 0#1 c.opDisplayRefresh true, Event.delay 10]) :
    t.wire = s.wire ++ frameStartSequence c ++ rowSequence bs ++ frameEndSequence c := by
  have hplane : (List.replicate c.planeBytes (Event.byte 1#1 0xFF#8 true)).filterMap Event.wireByte =
      List.replicate c.planeBytes (dataByte redPlaneByte) := List.filterMap_replicate_of_some rfl
  rw [State.wire, h]
  simp only [List.filterMap_append, filterMap_wireByte_dataEvents, hplane]
  simp [List.filterMap_cons, Event.wireByte, State.wire, frameStartSequence, frameEndSequence, cmdByte]

/-- The rows of a frame are HEIGHT · ROW_BYTES bytes. -/
theorem length_flatten_rows {α : Type} {rows : List (List α)} {b : Nat} (hp : ∀ p ∈ rows, p.length = b) :
    rows.flatten.length = b * rows.length := by
  rw [List.length_flatten, List.sum_eq_card_nsmul _ b (by simpa using hp)]
  simp [Nat.mul_comm]

/-- Settles O33: START_FRAME opens the frame, the rows keep it open, END_FRAME closes it; each adds its own events. -/
theorem completeFrameOnTheWire : Obligations.CompleteFrameOnTheWire := by
  intro s rows hl hi ho hb hheight hp hbus
  have hbytes : s.config.rowBytes * s.config.height + s.config.planeBytes + 3 =
      1 + (s.config.rowBytes * rows.length + (s.config.planeBytes + 2)) := by rw [hheight]; ring
  have started := startFrameBody_inFrame hl hi ho hb (hbytes ▸ hbus)
  obtain ⟨u, drawn, hrun⟩ := started.drawRows rows (by omega) hp
  rw [Nat.zero_add, hheight] at drawn
  obtain ⟨hlive, hclosed, hrows, htrace⟩ := drawn.endFrame
  refine ⟨endFrameBody u, ?_, hlive, hclosed, hrows, htrace, ?_, fun hw hh => ?_⟩
  · rw [runAll_cons_live _ _ hl, frameOps]
    exact (hrun [.endFrame]).trans (runAll_cons_live _ _ drawn.live)
  · rw [wire_of_frame_trace htrace]
    simp only [List.length_append, frameStartSequence_length, rowSequence_length, frameEndSequence_length,
      length_flatten_rows hp, hheight]
    omega
  · simp [Config.planeBytes, Config.rowBytes, hw, hh]

end Sys2Proof.Machine
end

section
/-!
PROOFS. No outcome depends on a received byte (spec 40_framer.md R103): every shared operation commutes with erasing the
received bytes, and so does every operation built of them.
-/

namespace Sys2Proof.Machine

/-! ## What the erasure leaves -/

@[simp] theorem eraseRx_config (s : State) : s.eraseRx.config = s.config := rfl
@[simp] theorem eraseRx_initState (s : State) : s.eraseRx.initState = s.initState := rfl
@[simp] theorem eraseRx_frameOpen (s : State) : s.eraseRx.frameOpen = s.frameOpen := rfl
@[simp] theorem eraseRx_rowsSent (s : State) : s.eraseRx.rowsSent = s.rowsSent := rfl
@[simp] theorem eraseRx_faulted (s : State) : s.eraseRx.faulted = s.faulted := rfl
@[simp] theorem eraseRx_refused (s : State) : s.eraseRx.refused = s.refused := rfl
@[simp] theorem eraseRx_busyLevel (s : State) : s.eraseRx.busyLevel = s.busyLevel := rfl
@[simp] theorem eraseRx_timerExpired (s : State) : s.eraseRx.timerExpired = s.timerExpired := rfl

/-- Whether an exchange succeeds does not depend on the byte it receives (R41). -/
@[simp] theorem eraseRx_busAnswer_ok (s : State) : s.eraseRx.busAnswer.ok = s.busAnswer.ok := by
  simp only [State.busAnswer, State.eraseRx]
  rcases s.busIn with ⟨_ | ⟨a, as⟩, n⟩ <;> rfl

/-! ## The shared operations -/

@[simp] theorem answer_eraseRx (r : OpResult) (s : State) : answer r s.eraseRx = (answer r s).eraseRx := rfl
@[simp] theorem raise_eraseRx (c : Cause) (s : State) : raise c s.eraseRx = (raise c s).eraseRx := rfl
@[simp] theorem sampleBusy_eraseRx (s : State) : sampleBusy s.eraseRx = (sampleBusy s).eraseRx := rfl
@[simp] theorem timerPoll_eraseRx (s : State) : timerPoll s.eraseRx = (timerPoll s).eraseRx := rfl

/-- The exchange draws the erased answer and leaves the erased rest. -/
theorem busExchange_eraseRx (s : State) : busExchange s.eraseRx = (busExchange s).eraseRx := by
  simp [busExchange, State.eraseRx, Tape.tail, List.map_tail]

theorem byteXfer_eraseRx (b : WireByte) (s : State) : byteXfer b s.eraseRx = (byteXfer b s).eraseRx := by
  have hsent : driveCs .asserted (driveDc b.1 s.eraseRx) = (driveCs .asserted (driveDc b.1 s)).eraseRx := rfl
  simp only [byteXfer, hsent, busExchange_eraseRx, eraseRx_busAnswer_ok]
  cases s.busAnswer.ok <;> rfl

@[simp] theorem sendAll_eraseRx (bs : List WireByte) (s : State) : sendAll bs s.eraseRx = (sendAll bs s).eraseRx := by
  induction bs generalizing s with
  | nil => rfl
  | cons b bs ih =>
    simp only [sendAll, byteXfer_eraseRx, eraseRx_faulted, ih]
    split <;> rfl

/-! ## INIT -/

@[simp] theorem leaveUninit_eraseRx (s : State) : leaveUninit s.eraseRx = (leaveUninit s).eraseRx := rfl
@[simp] theorem leaveResetting1_eraseRx (s : State) : leaveResetting1 s.eraseRx = (leaveResetting1 s).eraseRx := rfl

@[simp] theorem leaveResetting2_eraseRx (s : State) : leaveResetting2 s.eraseRx = (leaveResetting2 s).eraseRx := by
  simp only [leaveResetting2, eraseRx_config, sendAll_eraseRx, eraseRx_faulted]
  split <;> rfl

@[simp] theorem leaveResetting3_eraseRx (s : State) : leaveResetting3 s.eraseRx = (leaveResetting3 s).eraseRx := by
  simp only [leaveResetting3, eraseRx_config, sendAll_eraseRx, eraseRx_faulted]
  split <;> rfl

@[simp] theorem initLoop_eraseRx (n : Nat) (s : State) : initLoop n s.eraseRx = (initLoop n s).eraseRx := by
  induction n generalizing s with
  | zero => rfl
  | succ n ih =>
    simp only [initLoop, eraseRx_initState, eraseRx_busyLevel, eraseRx_timerExpired, sampleBusy_eraseRx,
      timerPoll_eraseRx, leaveUninit_eraseRx, leaveResetting1_eraseRx, leaveResetting2_eraseRx, leaveResetting3_eraseRx,
      eraseRx_faulted, ih]
    cases s.initState <;> simp only [apply_ite State.eraseRx]

theorem initBody_eraseRx (s : State) : initBody s.eraseRx = (initBody s).eraseRx := by
  simp only [initBody, eraseRx_initState, eraseRx_config, initLoop_eraseRx, eraseRx_faulted, answer_eraseRx,
    apply_ite State.eraseRx]

/-! ## Frames -/

theorem startFrameBody_eraseRx (s : State) : startFrameBody s.eraseRx = (startFrameBody s).eraseRx := by
  simp only [startFrameBody, eraseRx_initState, eraseRx_frameOpen, eraseRx_busyLevel, eraseRx_config, sampleBusy_eraseRx,
    sendAll_eraseRx, eraseRx_faulted, answer_eraseRx, raise_eraseRx, apply_ite State.eraseRx]
  rfl

theorem drawRowBody_eraseRx (p : List Byte) (s : State) : drawRowBody p s.eraseRx = (drawRowBody p s).eraseRx := by
  simp only [drawRowBody, eraseRx_frameOpen, eraseRx_rowsSent, eraseRx_config, sendAll_eraseRx, eraseRx_faulted,
    raise_eraseRx, apply_ite State.eraseRx]
  rfl

theorem endFrameBody_eraseRx (s : State) : endFrameBody s.eraseRx = (endFrameBody s).eraseRx := by
  simp only [endFrameBody, eraseRx_frameOpen, eraseRx_rowsSent, eraseRx_config, sendAll_eraseRx, eraseRx_faulted,
    raise_eraseRx, apply_ite State.eraseRx]
  rfl

/-! ## Every operation -/

theorem opBody_eraseRx (i : Instr) (s : State) : opBody i s.eraseRx = (opBody i s).eraseRx := by
  cases i with
  | init => exact initBody_eraseRx s
  | startFrame => exact startFrameBody_eraseRx s
  | drawRow p => exact drawRowBody_eraseRx p s
  | endFrame => exact endFrameBody_eraseRx s
  | startPartial | drawPartialRow | endPartial | clipIntersect | rowRead => rfl
  | fill => simp only [opBody, fillBody, apply_ite State.eraseRx]; rfl
  | rowLoad => simp only [opBody, rowLoadBody, apply_ite State.eraseRx]; rfl

/-- Settles O18: the common checks read no bus answer, and every operation's body commutes with the erasure. -/
theorem receivedBytesAreDiscarded : Obligations.ReceivedBytesAreDiscarded := by
  intro i s
  rw [exec_eq_guarded, exec_eq_guarded]
  rcases guarded_cases (opBody i) s with ⟨hf, he⟩ | ⟨hf, hr, he⟩ | ⟨hl, he⟩ <;> rw [he]
  · exact guarded_faulted _ _ hf
  · simp [guarded, hf, hr, mapNext]
  · rw [guarded_live _ s.eraseRx hl, opBody_eraseRx]
    rfl

end Sys2Proof.Machine
end

section
/-!
PROOFS. INIT_WAIT within six INITs (spec 30_encoding.md R86, 95_test_vectors.md W4): every INIT before INITIALIZED draws at
least one answer, so the draws that are left bound the INITs that are left.
-/

namespace Sys2Proof.Machine

/-- INIT issued until it is not NOT_READY, at most `m` times, ends live in INITIALIZED with READY (R86). -/
def State.ReadyWithin (s : State) (m : Nat) : Prop :=
  ∃ t : State, initWait m s = .next t ∧ t.Live ∧ t.initState = .initialized ∧ t.lastResult = some readyResult

/-- A block before INITIALIZED has a draw to come. -/
theorem State.OnCourse.draws_pos {s : State} {k j : Nat} (h : s.OnCourse k j) (hs : s.initState ≠ .initialized) :
    0 < k := by
  have hbusy := h.busy
  cases k with
  | succ k => exact Nat.succ_pos k
  | zero =>
    cases hi : s.initState <;> rw [hi] at hbusy
    case initialized => exact absurd hi hs
    all_goals exact hbusy.elim

/-- INIT's loop keeps the block on its course, and draws at least once where it has a turn and something to do. -/
theorem State.OnCourse.initLoop {s : State} {k j : Nat} (h : s.OnCourse k j) (n : Nat) :
    ∃ k' j', (initLoop n s).OnCourse k' j' ∧ k' + j' ≤ k + j ∧
      (n ≠ 0 → s.initState ≠ .initialized → k' + j' < k + j) := by
  induction n generalizing s k j with
  | zero => exact ⟨k, j, h, le_refl _, fun h0 => absurd rfl h0⟩
  | succ n ih =>
    by_cases hs : s.initState = .initialized
    · rw [initLoop_initialized _ s hs]
      exact ⟨k, j, h, le_refl _, fun _ hne => absurd hs hne⟩
    rcases initLoop_turn n s h.live.1 with ⟨u, turn, he⟩ | ⟨u, turn, _, he⟩ <;> rw [he]
    · obtain ⟨k', j', hlt, hu⟩ := turn.onCourse h hs u (.inl rfl)
      exact ⟨k', j', hu, hlt.le, fun _ _ => hlt⟩
    · obtain ⟨k', j', hlt, hu⟩ := turn.onCourse h hs u (.inr rfl)
      obtain ⟨k'', j'', hv, hle, _⟩ := ih hu
      exact ⟨k'', j'', hv, hle.trans hlt.le, fun _ _ => hle.trans_lt hlt⟩

/-- INIT_WAIT before INITIALIZED needs no more INITs than there are draws to come. -/
theorem State.OnCourse.readyWithin {s : State} {k j m : Nat} (h : s.OnCourse k j) (hs : s.initState ≠ .initialized)
    (hm : k + j ≤ m) : s.ReadyWithin m := by
  induction m generalizing s k j with
  | zero =>
    have hpos := h.draws_pos hs
    omega
  | succ m ih =>
    obtain ⟨k', j', hu, _, hlt⟩ := h.initLoop s.config.initMaxTransitions
    have hless := hlt (Nat.pos_iff_ne_zero.1 h.turns) hs
    have hbody := initBody_of_loop hs rfl
    rw [if_neg (by simp [hu.live.1])] at hbody
    by_cases hi : (Machine.initLoop s.config.initMaxTransitions s).initState = .initialized
    · rw [if_pos hi] at hbody
      exact ⟨_, initWait_succ_of_ready m h.live hbody, hu.live, hi, rfl⟩
    · rw [if_neg hi] at hbody
      obtain ⟨t, ht, hready⟩ := ih (hu.answer notReadyResult) hi (by omega)
      exact ⟨t, (initWait_succ_of_notReady m h.live hbody).trans ht, hready⟩

/-- Two expired polls are enough for INIT, from any initialisation state. -/
theorem Tape.due_polls {t : Tape Bool} (h : ∀ k < 2, t.nth Config.freeExpiry k = true) (i : InitState) :
    t.Due Config.freeExpiry true i.pollsLeft 2 := by
  have h0 := h 0 (by decide)
  have h1 := h 1 (by decide)
  cases i <;> simp_all [Tape.Due, InitState.pollsLeft, ← Tape.nth_zero]

/-- Settles O28: four samples and two polls are the draws to come; in INITIALIZED the first INIT answers READY. -/
theorem initWaitReachesReady : Obligations.InitWaitReachesReady := by
  intro s hl hn hbusy htimer hbus
  by_cases hs : s.initState = .initialized
  · have hbody : initBody s = answer readyResult s := if_pos hs
    exact ⟨_, initWait_succ_of_ready 5 hl hbody, hl, hs, rfl⟩
  · obtain ⟨j, hcourse⟩ := exists_onCourse hl hn (Tape.due_idle_of_pairs _ hbusy) hbus
    have hsix : s.OnCourse 4 2 := { hcourse with timer := Tape.due_polls htimer s.initState }
    exact hsix.readyWithin hs (le_refl _)

end Sys2Proof.Machine
end

section
/-!
PROOFS. The bit-packer (spec 41_bitpacker.md): clip intervals and CLIP_INTERSECT (R141 to R143), column masks (R144), FILL byte
by byte and pixel by pixel (R145 to R148), ROW_LOAD and ROW_READ (R149, R150).
-/

namespace Sys2Proof.Machine

/-! ## Clip intervals -/

/-- An interval is known by its bounds as integers (R140). -/
theorem Interval.eq_of_toInt {a b : Interval} (hl : a.left.toInt = b.left.toInt) (hr : a.right.toInt = b.right.toInt) :
    a = b := by
  cases a
  cases b
  exact congrArg₂ Interval.mk (BitVec.eq_of_toInt_eq hl) (BitVec.eq_of_toInt_eq hr)

theorem Interval.intersect_comm (a b : Interval) : a.intersect b = b.intersect a :=
  Interval.eq_of_toInt (by simp only [Interval.intersect_left, max_comm])
    (by simp only [Interval.intersect_right, min_comm])

theorem Interval.intersect_assoc (a b c : Interval) : (a.intersect b).intersect c = a.intersect (b.intersect c) :=
  Interval.eq_of_toInt (by simp only [Interval.intersect_left, max_assoc])
    (by simp only [Interval.intersect_right, min_assoc])

theorem Interval.mem_intersect_iff (a b : Interval) (c : Int) :
    (a.intersect b).mem c = true ↔ a.mem c = true ∧ b.mem c = true := by
  simp only [Interval.mem_iff, Interval.intersect_left, Interval.intersect_right]
  omega

/-- An interval that is not empty has its left bound as a column. -/
theorem Interval.empty_iff_no_column (a : Interval) : a.empty = true ↔ ¬ ∃ c : Int, a.mem c = true := by
  simp only [Interval.empty_iff, Interval.mem_iff]
  constructor
  · rintro h ⟨c, hl, hr⟩
    omega
  · intro h
    by_contra hlt
    exact h ⟨a.left.toInt, le_refl _, by omega⟩

/-- Settles O37: the columns of an intersection are the common columns, and an empty interval has none. -/
theorem intersectionIsEmptyIffDisjoint : Obligations.IntersectionIsEmptyIffDisjoint := by
  intro a b
  have hempty : (a.intersect b).empty = true ↔ ¬ ∃ c : Int, a.mem c = true ∧ b.mem c = true := by
    simp only [Interval.empty_iff_no_column, Interval.mem_intersect_iff]
  refine ⟨hempty, fun h => hempty.2 ?_⟩
  rintro ⟨c, ha, hb⟩
  rcases h with h | h
  · exact a.empty_iff_no_column.1 h ⟨c, ha⟩
  · exact b.empty_iff_no_column.1 h ⟨c, hb⟩

/-- A READY result word is EMPTY alone (R78). -/
theorem resultWord_ready (empty : Bool) :
    resultWord .ready 0#8 empty = if empty = true then 0x00010000#32 else 0x00000000#32 := by
  cases empty <;> rfl

/-- Settles O36: the operation answers with the intersection, which is commutative and associative. -/
theorem clipIntersectAnswersTheIntersection : Obligations.ClipIntersectAnswersTheIntersection := by
  refine ⟨fun s aLeft aRight bLeft bRight hl => ⟨rfl, ?_, maxWord aLeft bLeft, minWord aRight bRight,
    maxWord_toInt _ _, minWord_toInt _ _, ?_⟩, Interval.intersect_assoc⟩
  · rw [exec_live _ s hl, exec_live _ s hl, opBody, opBody, clipIntersectBody, Interval.intersect_comm]
    rfl
  · rw [exec_live _ s hl, opBody, clipIntersectBody, clipResult, resultWord_ready]
    simp only [Interval.empty_iff]
    rfl

/-! ## Loading and reading the row -/

/-- Settles O42: the two cases of ROW_LOAD exclude each other by the payload's length. -/
theorem rowLoadWritesTheWholeRow : Obligations.RowLoadWritesTheWholeRow := by
  refine ⟨fun p => congrArg (Descriptor.mk · [] p) (packWord0_len .rowLoad p.length), fun s p hl => ?_⟩
  rw [exec_live _ s hl, opBody]
  rcases rowLoadBody_cases p s with ⟨hlen, he⟩ | ⟨hlen, he⟩ <;> rw [he]
  · exact ⟨fun _ => rfl, fun hne => absurd hlen hne⟩
  · exact ⟨fun h => absurd h hlen, fun _ => rfl⟩

/-- Settles O43: ROW_READ is one answer. -/
theorem rowReadAnswersTheRow : Obligations.RowReadAnswersTheRow :=
  ⟨rfl, fun s hl => exec_live .rowRead s hl⟩

/-! ## Column masks -/

theorem bitpos_lt (o : BitOrder) (c : Nat) : bitpos o c < 8 := by
  cases o <;> simp only [bitpos] <;> omega

/-- Two columns of one byte at one bit are one column (R52). -/
theorem eq_of_bitpos_eq {o : BitOrder} {c d : Nat} (hbyte : c / 8 = d / 8) (hbit : bitpos o c = bitpos o d) : c = d := by
  cases o <;> simp only [bitpos] at hbit <;> omega

/-- The map from columns to bits is its own inverse (R52). -/
theorem bitpos_bitpos (o : BitOrder) {i : Nat} (hi : i < 8) : bitpos o (bitpos o i) = i := by
  cases o <;> simp only [bitpos] <;> omega

theorem columnBit_getLsbD (o : BitOrder) (c i : Nat) : (1#8 <<< bitpos o c).getLsbD i = true ↔ bitpos o c = i := by
  have h := BitVec.getLsbD_twoPow (w := 8) (bitpos o c) i
  rw [BitVec.twoPow] at h
  simp [h, bitpos_lt]

theorem columnBits_getLsbD (o : BitOrder) (a n i : Nat) :
    (columnBits o a n).getLsbD i = true ↔ ∃ c, a ≤ c ∧ c < a + n ∧ bitpos o c = i := by
  induction n generalizing a with
  | zero =>
    simp only [columnBits, BitVec.getLsbD_zero, Bool.false_eq_true, false_iff]
    rintro ⟨c, hl, hr, _⟩
    omega
  | succ n ih =>
    simp only [columnBits, BitVec.getLsbD_or, Bool.or_eq_true, columnBit_getLsbD, ih]
    constructor
    · rintro (h | ⟨c, hl, hr, h⟩)
      · exact ⟨a, le_refl _, by omega, h⟩
      · exact ⟨c, by omega, by omega, h⟩
    · rintro ⟨c, hl, hr, h⟩
      rcases hl.eq_or_lt with rfl | hlt
      · exact .inl h
      · exact .inr ⟨c, hlt, by omega, h⟩

/-- The set bits of a column mask are its columns' bits (R144). -/
theorem colmask_getLsbD (o : BitOrder) {a z : Nat} (h : a ≤ z) (i : Nat) :
    (colmask o a z).getLsbD i = true ↔ ∃ c, a ≤ c ∧ c ≤ z ∧ bitpos o c = i := by
  have hz : a + (z + 1 - a) = z + 1 := by omega
  simp only [colmask, columnBits_getLsbD, hz, Nat.lt_succ_iff]

/-- A mask in one byte depends on its columns' places in that byte alone (R144). -/
theorem colmask_mod_eight (o : BitOrder) {a z : Nat} (h : a / 8 = z / 8) : colmask o a z = colmask o (a % 8) (z % 8) := by
  have hn : z + 1 - a = z % 8 + 1 - a % 8 := by omega
  have ha : a = 8 * (a / 8) + a % 8 := by omega
  rw [colmask, colmask, hn]
  nth_rw 1 [ha]
  exact columnBits_add_eight_mul o (a / 8) (a % 8) _

/-- Both closed forms of R144 for the 36 masks of one byte. -/
theorem colmask_closed_forms : ∀ a z : Fin 8, a ≤ z →
    colmask .msbFirst a z = (0xFF#8 >>> a.val) &&& (0xFF#8 <<< (7 - z.val)) ∧
    colmask .lsbFirst a z = (0xFF#8 <<< a.val) &&& (0xFF#8 >>> (7 - z.val)) := by
  decide

/-- Settles O35: the closed forms are those of the columns' places within the byte. -/
theorem columnMaskHasItsColumns : Obligations.ColumnMaskHasItsColumns := by
  intro a z hle hbyte
  have hmod : a % 8 ≤ z % 8 := by omega
  refine ⟨fun o i _ => colmask_getLsbD o hle i, ?_⟩
  rw [colmask_mod_eight _ hbyte, colmask_mod_eight _ hbyte]
  exact colmask_closed_forms ⟨a % 8, by omega⟩ ⟨z % 8, by omega⟩ hmod

/-! ## The mask of a span in one byte -/

theorem foldl_columnBits_getLsbD (o : BitOrder) (l r k i : Nat) (js : List Nat) (m : Byte) :
    (js.foldl (fun m j => if l ≤ 8 * k + j ∧ 8 * k + j < r then m ||| (1#8 <<< bitpos o (8 * k + j)) else m) m).getLsbD i
        = true ↔
      m.getLsbD i = true ∨ ∃ j ∈ js, (l ≤ 8 * k + j ∧ 8 * k + j < r) ∧ bitpos o (8 * k + j) = i := by
  induction js generalizing m with
  | nil => simp
  | cons j js ih =>
    rw [List.foldl_cons, ih]
    by_cases hj : l ≤ 8 * k + j ∧ 8 * k + j < r
    · rw [if_pos hj, BitVec.getLsbD_or, Bool.or_eq_true, columnBit_getLsbD, or_assoc]
      simp [hj]
    · simp [hj]

/-- The set bits of M_k are those of the span's columns in byte k (R146). -/
theorem spanMask_getLsbD (o : BitOrder) (l r k i : Nat) :
    (spanMask o l r k).getLsbD i = true ↔ ∃ c, c / 8 = k ∧ (l ≤ c ∧ c < r) ∧ bitpos o c = i := by
  rw [spanMask, foldl_columnBits_getLsbD]
  simp only [BitVec.getLsbD_zero, Bool.false_eq_true, false_or, List.mem_range]
  constructor
  · rintro ⟨j, hj, hspan, hbit⟩
    exact ⟨8 * k + j, by omega, hspan, hbit⟩
  · rintro ⟨c, rfl, hspan, hbit⟩
    have hc : 8 * (c / 8) + c % 8 = c := Nat.div_add_mod c 8
    exact ⟨c % 8, Nat.mod_lt _ (by decide), by rwa [hc], by rwa [hc]⟩

/-- Where the columns of a span in a byte are those from `a` to `z`, its mask there is theirs. -/
theorem spanMask_eq_colmask (o : BitOrder) {l r k a z : Nat} (hle : a ≤ z) (ha : a / 8 = k) (hz : z / 8 = k)
    (h : ∀ c, c / 8 = k → (l ≤ c ∧ c < r ↔ a ≤ c ∧ c ≤ z)) : spanMask o l r k = colmask o a z := by
  refine BitVec.eq_of_getLsbD_eq fun i _ => ?_
  rw [Bool.eq_iff_iff, spanMask_getLsbD, colmask_getLsbD o hle]
  constructor
  · rintro ⟨c, hc, hspan, hbit⟩
    obtain ⟨hac, hcz⟩ := (h c hc).1 hspan
    exact ⟨c, hac, hcz, hbit⟩
  · rintro ⟨c, hac, hcz, hbit⟩
    have hc : c / 8 = k := by omega
    exact ⟨c, hc, (h c hc).2 ⟨hac, hcz⟩, hbit⟩

theorem spanMask_outside (o : BitOrder) {l r k : Nat} (h : k < l / 8 ∨ (r - 1) / 8 < k) : spanMask o l r k = 0#8 := by
  refine BitVec.eq_of_getLsbD_eq fun i _ => ?_
  rw [Bool.eq_iff_iff, spanMask_getLsbD]
  simp only [BitVec.getLsbD_zero, Bool.false_eq_true, iff_false]
  rintro ⟨c, hc, hspan, _⟩
  omega

/-- A column's own bit is in the mask of its byte exactly when the column is in the span. -/
theorem spanMask_getLsbD_bitpos (o : BitOrder) (l r c : Nat) :
    (spanMask o l r (c / 8)).getLsbD (bitpos o c) = true ↔ l ≤ c ∧ c < r := by
  rw [spanMask_getLsbD]
  constructor
  · rintro ⟨d, hbyte, hspan, hbit⟩
    rwa [← eq_of_bitpos_eq hbyte hbit]
  · exact fun hspan => ⟨c, rfl, hspan, rfl⟩

/-! ## A fill, byte by byte -/

/-- A byte with the bits of a mask set to one level and its other bits kept (R146). -/
def paint (b : Level) (mask old : Byte) : Byte := (old &&& ~~~mask) ||| (if b = 1#1 then mask else 0#8)

theorem paint_getLsbD (b : Level) (mask old : Byte) {i : Nat} (hi : i < 8) :
    (paint b mask old).getLsbD i = if mask.getLsbD i = true then b == 1#1 else old.getLsbD i := by
  simp only [paint, BitVec.getLsbD_or, BitVec.getLsbD_and, BitVec.getLsbD_not, hi]
  by_cases hb : b = 1#1
  · rw [if_pos hb]
    cases mask.getLsbD i <;> simp [hb]
  · rw [if_neg hb]
    cases mask.getLsbD i <;> simp [hb]

theorem paint_zero (b : Level) (old : Byte) : paint b 0#8 old = old := by
  have hand : old &&& ~~~0#8 = old := BitVec.and_allOnes
  rw [paint, hand, ite_self, BitVec.or_zero]

theorem paint_whole_byte (b : Level) (old : Byte) : paint b 0xFF#8 old = fillByte b := by
  have hand : old &&& ~~~0xFF#8 = 0x00#8 := BitVec.and_zero
  rw [paint, hand, BitVec.zero_or, fillByte]

theorem applyMask_read_same (k : Nat) (mask : Byte) (b : Level) (m : Memory) (h : k < m.length) :
    (applyMask k mask b m).read k = paint b mask (m.read k) := by
  rw [applyMask_read k mask b m h, if_pos rfl, paint]

theorem fillBytes_read_inside (b : Level) {k n j : Nat} (m : Memory) (h : k + n ≤ m.length) (hj : k ≤ j ∧ j < k + n) :
    (fillBytes b k n m).read j = fillByte b := by
  rw [fillBytes_read b k n m h, if_pos hj, fillByte]

/-- A fill within one byte applies the mask of its span there (R145). -/
theorem fillSpan_read_one_byte (o : BitOrder) (b : Level) {l r : Nat} (m : Memory) (hlr : l < r) (hr : r ≤ 8 * m.length)
    (hbyte : l / 8 = (r - 1) / 8) :
    (fillSpan o b l r m).read (l / 8) = paint b (spanMask o l r (l / 8)) (m.read (l / 8)) := by
  have hmask : spanMask o l r (l / 8) = colmask o l (r - 1) :=
    spanMask_eq_colmask o (by omega) rfl hbyte.symm fun c _ => by omega
  simp only [fillSpan, if_pos hbyte]
  rw [applyMask_read_same _ _ _ _ (by omega), hmask]

/-- A fill over several bytes applies the mask of its span to the left byte, to the right byte, and, with every bit set, to
the bytes between (R145). -/
theorem fillSpan_read_several_bytes (o : BitOrder) (b : Level) {l r k : Nat} (m : Memory) (hr : r ≤ 8 * m.length)
    (hbytes : l / 8 < (r - 1) / 8) (hk : l / 8 ≤ k ∧ k ≤ (r - 1) / 8) :
    (fillSpan o b l r m).read k = paint b (spanMask o l r k) (m.read k) := by
  simp only [fillSpan, if_neg hbytes.ne]
  rcases hk.2.eq_or_lt with rfl | hlast
  · have hmask : spanMask o l r ((r - 1) / 8) = colmask o (8 * ((r - 1) / 8)) (r - 1) :=
      spanMask_eq_colmask o (by omega) (by omega) rfl fun c hc => by omega
    rw [applyMask_read_same _ _ _ _ (by simp only [fillBytes_length, applyMask_length]; omega),
      fillBytes_read_outside _ _ _ _ (by omega), applyMask_read_other _ _ _ _ (by omega), hmask]
  rw [applyMask_read_other _ _ _ _ hlast.ne]
  rcases hk.1.eq_or_lt with rfl | hfirst
  · have hmask : spanMask o l r (l / 8) = colmask o l (8 * (l / 8) + 7) :=
      spanMask_eq_colmask o (by omega) rfl (by omega) fun c hc => by omega
    rw [fillBytes_read_outside _ _ _ _ (by omega), applyMask_read_same _ _ _ _ (by omega), hmask]
  · have hmask : spanMask o l r k = colmask o (8 * k) (8 * k + 7) :=
      spanMask_eq_colmask o (by omega) (by omega) (by omega) fun c hc => by omega
    rw [fillBytes_read_inside b _ (by rw [applyMask_length]; omega) (by omega), hmask, colmask_whole_byte, paint_whole_byte]

/-- A fill sets the bits of M_k in every byte k (R146). -/
theorem fillSpan_read (o : BitOrder) (b : Level) {l r : Nat} (m : Memory) (hlr : l < r) (hr : r ≤ 8 * m.length) (k : Nat) :
    (fillSpan o b l r m).read k = paint b (spanMask o l r k) (m.read k) := by
  by_cases hout : k < l / 8 ∨ (r - 1) / 8 < k
  · rw [fillSpan_read_outside o b m hlr hout, spanMask_outside o hout, paint_zero]
  rcases (Nat.div_le_div_right (c := 8) (Nat.le_sub_one_of_lt hlr)).eq_or_lt with hbyte | hbytes
  · obtain rfl : k = l / 8 := by omega
    exact fillSpan_read_one_byte o b m hlr hr hbyte
  · exact fillSpan_read_several_bytes o b m hr hbytes (by omega)

/-- A clipped span that fits ends within the row buffer's bytes (R9, R145). -/
theorem State.SpanFits.right_le_length {s : State} {e : Interval} (h : s.SpanFits e) (hform : s.RowForm) :
    e.right.toInt.toNat ≤ 8 * s.rowBuf.length := by
  have hlen : s.rowBuf.length = s.config.fillBytes := (Memory.wf_iff _ _).1 hform
  obtain ⟨_, hright⟩ := h
  rw [Config.columns] at hright
  omega

/-- Settles O38: each clause is one path of R145, and a fill is known byte by byte. -/
theorem fillSetsExactlyItsMasks : Obligations.FillSetsExactlyItsMasks := by
  refine ⟨fun _ _ _ _ => ⟨rfl, rfl⟩, ?_⟩
  intro s col cl cr l r hl hform e
  rw [exec_live _ s hl, opBody]
  rcases fillBody_cases col ⟨cl, cr⟩ ⟨l, r⟩ s with ⟨hempty, he⟩ | ⟨hne, hout, he⟩ | ⟨hne, hfits, he⟩ <;> rw [he]
  · exact ⟨fun _ => rfl, fun hne => absurd hne (by simp [e, hempty]), fun hne => absurd hne (by simp [e, hempty])⟩
  · exact ⟨fun hempty => absurd hempty (by simp [e, hne]), fun _ _ => rfl, fun _ hfits => absurd hfits hout⟩
  · refine ⟨fun hempty => absurd hempty (by simp [e, hne]), fun _ hout => absurd hfits hout, fun _ _ => ?_⟩
    exact ⟨_, rfl, fillSpan_length _ _ _ _ _,
      fillSpan_read _ _ _ (hfits.left_lt_right hne) (hfits.right_le_length hform)⟩

/-! ## A fill, pixel by pixel -/

/-- Equal pixels in every column make equal buffers (R51, R52). -/
theorem Memory.ext_pixel (o : BitOrder) {m m' : Memory} (hl : m.length = m'.length) (h : ∀ c, m.pixel o c = m'.pixel o c) :
    m = m' := by
  refine Memory.ext_read hl fun k => BitVec.eq_of_getLsbD_eq fun i hi => ?_
  have hbyte : (8 * k + bitpos o i) / 8 = k := by have := bitpos_lt o i; omega
  have hpixel := h (8 * k + bitpos o i)
  rwa [Memory.pixel, Memory.pixel, hbyte, bitpos_add_eight_mul, bitpos_bitpos o hi] at hpixel

theorem fillSpan_pixel (o : BitOrder) (b : Level) {l r : Nat} (m : Memory) (hlr : l < r) (hr : r ≤ 8 * m.length) (c : Nat) :
    (fillSpan o b l r m).pixel o c = if l ≤ c ∧ c < r then b == 1#1 else m.pixel o c := by
  rw [Memory.pixel, fillSpan_read o b m hlr hr, paint_getLsbD _ _ _ (bitpos_lt o c)]
  simp only [spanMask_getLsbD_bitpos, Memory.pixel]

/-- FILL leaves a live block live unless the clipped span, not empty, leaves the buffer (R145). -/
theorem fillBody_live {col : Color} {clip span : Interval} {s : State} (hl : s.Live)
    (h : (clip.intersect span).empty = true ∨ s.SpanFits (clip.intersect span)) : (fillBody col clip span s).Live := by
  rcases fillBody_cases col clip span s with ⟨_, he⟩ | ⟨hne, hout, he⟩ | ⟨_, _, he⟩ <;> rw [he]
  · exact hl
  · exact absurd h (by simp [hne, hout])
  · exact hl

/-- A clipped span that is not empty and leaves the buffer is FILL's one fault (R145). -/
theorem fillBody_faulted {col : Color} {clip span : Interval} {s : State}
    (h : ¬ ((clip.intersect span).empty = true ∨ s.SpanFits (clip.intersect span))) :
    fillBody col clip span s = raise .fillRange s := by
  rcases fillBody_cases col clip span s with ⟨hempty, _⟩ | ⟨_, _, he⟩ | ⟨_, hfits, _⟩
  · exact absurd (.inl hempty) h
  · exact he
  · exact absurd (.inr hfits) h

@[simp] theorem fillBody_config (col : Color) (clip span : Interval) (s : State) :
    (fillBody col clip span s).config = s.config := by
  rcases fillBody_cases col clip span s with ⟨_, he⟩ | ⟨_, _, he⟩ | ⟨_, _, he⟩ <;> rw [he] <;> rfl

@[simp] theorem fillBody_rowBuf_length (col : Color) (clip span : Interval) (s : State) :
    (fillBody col clip span s).rowBuf.length = s.rowBuf.length := by
  rcases fillBody_cases col clip span s with ⟨_, he⟩ | ⟨_, _, he⟩ | ⟨_, _, he⟩ <;> rw [he]
  · rfl
  · rfl
  · exact fillSpan_length _ _ _ _ _

/-- A FILL keeps the row buffer's form, whatever becomes of it. -/
theorem fillBody_rowForm (col : Color) (clip span : Interval) {s : State} (hform : s.RowForm) :
    (fillBody col clip span s).RowForm := by
  simpa [State.RowForm, Memory.wf_iff] using hform

/-- Everything a FILL does to the pixels: those of a clipped span that fits get the colour's bit (R147). -/
theorem fillBody_pixel (col : Color) (clip span : Interval) {s : State} (hform : s.RowForm) (c : Nat) :
    (fillBody col clip span s).rowBuf.pixel s.config.bitOrder c =
      if s.SpanFits (clip.intersect span) ∧ (clip.intersect span).mem c = true then cbit s.config.whiteBit col == 1#1
      else s.rowBuf.pixel s.config.bitOrder c := by
  rcases fillBody_cases col clip span s with ⟨hempty, he⟩ | ⟨_, hout, he⟩ | ⟨hne, hfits, he⟩ <;> rw [he]
  · have hno : ¬ (clip.intersect span).mem c = true := fun hmem => (Interval.empty_iff_no_column _).1 hempty ⟨c, hmem⟩
    rw [if_neg fun h => hno h.2, answer_rowBuf]
  · rw [if_neg fun h => hout h.1, raise_rowBuf]
  · have hcolumn : (clip.intersect span).left.toInt.toNat ≤ c ∧ c < (clip.intersect span).right.toInt.toNat ↔
        s.SpanFits (clip.intersect span) ∧ (clip.intersect span).mem c = true := by
      rw [Interval.mem_iff, and_iff_right hfits]
      obtain ⟨hleft, _⟩ := hfits
      omega
    rw [answer_rowBuf, fillSpan_pixel _ _ _ (hfits.left_lt_right hne) (hfits.right_le_length hform)]
    simp only [hcolumn]

/-- Settles O39: the pixels are those of `fillBody_pixel`, and the untouched bytes are part of O45. -/
theorem fillColoursExactlyItsColumns : Obligations.FillColoursExactlyItsColumns := by
  intro s col cl cr l r hl hform e
  have hexec : exec (.fill col cl cr l r) s = .next (fillBody col ⟨cl, cr⟩ ⟨l, r⟩ s) := exec_live _ s hl
  obtain ⟨_, _, _, _, _, _, hbytes⟩ := bitPackerLeavesTheRestAlone _ s _ hexec (.inl ⟨col, cl, cr, l, r, rfl⟩)
  refine ⟨_, hexec, fun c _ hno => ?_, fun hfits c hclip hspan => ?_, hbytes col cl cr l r rfl⟩
  · rw [fillBody_pixel col _ _ hform, if_neg fun h => hno ((Interval.mem_intersect_iff _ _ _).1 h.2)]
  · rw [fillBody_pixel col _ _ hform, if_pos ⟨hfits, (Interval.mem_intersect_iff _ _ _).2 ⟨hclip, hspan⟩⟩]

/-! ## Two fills -/

/-- Two FILLs, pixel by pixel: the second decides first (R148). -/
theorem fillBody_fillBody_pixel (col col' : Color) (clip span clip' span' : Interval) {s : State} (hform : s.RowForm)
    (c : Nat) :
    (fillBody col' clip' span' (fillBody col clip span s)).rowBuf.pixel s.config.bitOrder c =
      if s.SpanFits (clip'.intersect span') ∧ (clip'.intersect span').mem c = true then cbit s.config.whiteBit col' == 1#1
      else if s.SpanFits (clip.intersect span) ∧ (clip.intersect span).mem c = true then cbit s.config.whiteBit col == 1#1
      else s.rowBuf.pixel s.config.bitOrder c := by
  have hsecond := fillBody_pixel col' clip' span' (fillBody_rowForm col clip span hform) c
  simp only [State.SpanFits, fillBody_config] at hsecond
  rw [hsecond, fillBody_pixel col clip span hform]

/-- FILL is idempotent on the row buffer (R148). -/
theorem fillBody_idempotent (col : Color) (clip span : Interval) {s : State} (hform : s.RowForm) :
    (fillBody col clip span (fillBody col clip span s)).rowBuf = (fillBody col clip span s).rowBuf := by
  refine Memory.ext_pixel s.config.bitOrder (by simp) fun c => ?_
  rw [fillBody_fillBody_pixel col col clip span clip span hform, fillBody_pixel col clip span hform]
  split <;> rfl

/-- FILLs of one colour commute on the row buffer (R148). -/
theorem fillBody_comm (col : Color) (clip span clip' span' : Interval) {s : State} (hform : s.RowForm) :
    (fillBody col clip' span' (fillBody col clip span s)).rowBuf =
      (fillBody col clip span (fillBody col clip' span' s)).rowBuf := by
  refine Memory.ext_pixel s.config.bitOrder (by simp) fun c => ?_
  rw [fillBody_fillBody_pixel _ _ _ _ _ _ hform, fillBody_fillBody_pixel _ _ _ _ _ _ hform]
  split_ifs <;> rfl

/-- Two operations, the first of which leaves the block live. -/
theorem runAll_pair {i j : Instr} {s : State} (hl : s.Live) (hl' : (opBody i s).Live) :
    runAll [i, j] s = .next (opBody j (opBody i s)) := by
  rw [runAll_cons_live i _ hl, runAll_cons_live j _ hl', runAll]

/-- Settles O40: a FILL that faults is answered by its fault the second time; all else is read off the pixels. -/
theorem fillIsIdempotentAndCommutes : Obligations.FillIsIdempotentAndCommutes := by
  intro s col col' cl cr l r cl' cr' l' r' hl hform e e'
  refine ⟨⟨fillBody col ⟨cl, cr⟩ ⟨l, r⟩ s, ?_⟩, fun hready hready' => ?_⟩
  · by_cases hready : e.empty = true ∨ s.SpanFits e
    · exact ⟨_, runAll_cons_live _ _ hl, runAll_pair hl (fillBody_live hl hready), fillBody_idempotent col _ _ hform⟩
    · have hfault := fillBody_faulted (col := col) hready
      refine ⟨answerFaulted (raise .fillRange s), runAll_cons_live _ _ hl, ?_, by rw [hfault]; rfl⟩
      rw [runAll_cons_live _ _ hl, opBody, hfault]
      rfl
  · refine ⟨_, _, _, runAll_pair hl (fillBody_live hl hready), runAll_pair hl (fillBody_live hl hready'),
      fillBody_comm col _ _ _ _ hform, runAll_pair hl (fillBody_live hl hready), fun c _ hmem' => ?_⟩
    have hfits' : s.SpanFits e' :=
      hready'.resolve_left fun hempty => (Interval.empty_iff_no_column _).1 hempty ⟨c, hmem'⟩
    exact (fillBody_fillBody_pixel _ _ _ _ _ _ hform c).trans (if_pos ⟨hfits', hmem'⟩)

end Sys2Proof.Machine
end

section
/-!
PROOFS. Results, faults and refusals of an operation (spec 60_exceptions.md R170 to R181): everything an operation can end in,
said once, and from it what a result holds and how precise a fault is.
-/

namespace Sys2Proof.Machine

/-! ## A faulted block, a refused block -/

/-- Settles O8: the faulted test is the first of the common checks, in `exec` and at the port (R173). -/
theorem faultedBlockAnswersItsFault : Obligations.FaultedBlockAnswersItsFault := by
  intro s hf
  refine ⟨fun i => ?_, fun d rest hq => ?_⟩
  · rw [exec_eq_guarded, guarded_faulted _ _ hf]
    rfl
  · simp only [step, fetch, hq, deliver, hf, if_true]
    rfl

/-- Settles O9: of the steps from a faulted state only RESET and the block's own answer have a next state. -/
theorem onlyResetClearsAFault : Obligations.OnlyResetClearsAFault := by
  intro s t hs hf
  rcases step_next s t hs with ⟨_, rfl⟩ | ⟨rest, hq, rfl⟩ | ⟨d, rest, _, hc⟩
  · exact .inl ⟨hf, rfl⟩
  · exact .inr ⟨rest, hq, rfl, rfl⟩
  · have not_live : ¬ s.Live := fun hl => by simp [State.Live, hf] at hl
    rcases hc with ⟨_, rfl⟩ | ⟨hl, _⟩ | ⟨hl, _⟩ | ⟨hl, _⟩
    · exact .inl ⟨hf, rfl⟩
    all_goals exact absurd hl not_live

/-- The second of the common checks (R173, R181). -/
theorem guarded_refused (body : State → State) {s : State} (hf : s.faulted = false) (hr : s.refused = true) :
    guarded body s = .fault .stuckAfterRefusal := by
  simp [guarded, hf, hr]

/-! ## The fields of a result word -/

section
variable (code : ResultCode) (cause : Byte) (empty : Bool)

theorem resultWord_toNat :
    (resultWord code cause empty).toNat = code.code.toNat + cause.toNat * 2 ^ 8 + empty.toNat * 2 ^ 16 := by
  have hcode := code.code.isLt
  have hcause := cause.isLt
  have hempty := empty.toNat_le
  rw [resultWord, BitVec.toNat_ofNat, Nat.mod_eq_of_lt (by omega)]

@[simp] theorem resultWord_code : (resultWord code cause empty).extractLsb' 0 2 = code.code := by
  apply BitVec.eq_of_toNat_eq
  have hcode := code.code.isLt
  rw [BitVec.extractLsb'_toNat, resultWord_toNat, Nat.shiftRight_zero]
  omega

@[simp] theorem resultWord_reserved_low : (resultWord code cause empty).extractLsb' 2 6 = 0#6 := by
  apply BitVec.eq_of_toNat_eq
  have hcode := code.code.isLt
  rw [BitVec.extractLsb'_toNat, resultWord_toNat, Nat.shiftRight_eq_div_pow, BitVec.toNat_ofNat]
  omega

@[simp] theorem resultWord_cause : (resultWord code cause empty).extractLsb' 8 8 = cause := by
  apply BitVec.eq_of_toNat_eq
  have hcode := code.code.isLt
  have hcause := cause.isLt
  rw [BitVec.extractLsb'_toNat, resultWord_toNat, Nat.shiftRight_eq_div_pow]
  omega

@[simp] theorem resultWord_empty : (resultWord code cause empty)[16] = empty := by
  have hcode := code.code.isLt
  have hcause := cause.isLt
  rw [← BitVec.getLsbD_eq_getElem, BitVec.getLsbD, resultWord_toNat, Nat.testBit_eq_decide_div_mod_eq]
  cases empty <;> simp only [decide_eq_true_eq, decide_eq_false_iff_not, Bool.toNat_true, Bool.toNat_false] <;> omega

@[simp] theorem resultWord_reserved_high : (resultWord code cause empty).extractLsb' 17 15 = 0#15 := by
  apply BitVec.eq_of_toNat_eq
  have hcode := code.code.isLt
  have hcause := cause.isLt
  have hempty := empty.toNat_le
  rw [BitVec.extractLsb'_toNat, resultWord_toNat, Nat.shiftRight_eq_div_pow, BitVec.toNat_ofNat]
  omega

end

/-! ## Everything an operation can end in -/

/-- The operations of the partial-refresh extension (R119 to R121). -/
def IsPartialRefresh (i : Instr) : Prop :=
  (∃ l u r b, i = .startPartial l u r b) ∨ (∃ p, i = .drawPartialRow p) ∨ i = .endPartial

/-- The results an operation can complete with, neither faulted nor refused (R78). -/
inductive Completes : Instr → OpResult → Prop
  | ready (i : Instr) : Completes i readyResult
  | initNotReady : Completes .init notReadyResult
  | startFrameNotReady : Completes .startFrame notReadyResult
  | clip (aLeft aRight bLeft bRight l r : Word) (empty : Bool) :
      Completes (.clipIntersect aLeft aRight bLeft bRight) (clipResult l r empty)
  | row (bytes : List Byte) : Completes .rowRead (rowResult bytes)

/-- An operation begun in `s` has come to `u`: no fault, no result yet, no failed exchange, and neither the frame's state nor
the row buffer written. -/
structure State.UnderWay (s u : State) : Prop extends s.InitAlone u where
  faulted : u.faulted = false
  results : u.resultsRev = s.resultsRev
  events : ∃ es, u.traceRev = es ++ s.traceRev ∧ es.all (fun e => !e.fails) = true

theorem State.UnderWay.refl {s : State} (hf : s.faulted = false) : s.UnderWay s :=
  ⟨⟨.refl s, rfl, rfl⟩, hf, rfl, [], rfl, rfl⟩

theorem State.UnderWay.sampleBusy {s : State} (hf : s.faulted = false) : s.UnderWay (sampleBusy s) :=
  ⟨⟨(frameOpAlone_sampleBusy s).toFramerAlone, rfl, rfl⟩, hf, rfl, [.busy s.busyLevel], rfl, rfl⟩

theorem State.UnderWay.timerPoll {s : State} (hf : s.faulted = false) : s.UnderWay (timerPoll s) :=
  ⟨⟨⟨rfl, rfl, rfl, rfl, rfl, List.suffix_cons _ _, fun _ => rfl⟩, rfl, rfl⟩, hf, rfl, [.timerPoll s.timerExpired], rfl, rfl⟩

/-- A sequence that goes out whole, with init_state written after its last byte (R112, R113). -/
theorem State.UnderWay.sent (bs : List WireByte) (i : InitState) {s : State} (hf : s.faulted = false) :
    s.UnderWay { sentOk bs s with initState := i } :=
  ⟨⟨⟨rfl, rfl, rfl, rfl, rfl, List.suffix_append _ _, fun _ => rfl⟩, rfl, rfl⟩, hf, rfl, _, rfl, okEvents_not_fail bs⟩

theorem State.UnderWay.trans {s v u : State} (h : s.UnderWay v) (h' : v.UnderWay u) : s.UnderWay u where
  toInitAlone := h.toInitAlone.trans h.faulted h'.toInitAlone
  faulted := h'.faulted
  results := h'.results.trans h.results
  events := by
    obtain ⟨es, htr, hes⟩ := h.events
    obtain ⟨es', htr', hes'⟩ := h'.events
    exact ⟨es' ++ es, by rw [htr', htr, List.append_assoc], by rw [List.all_append, hes', hes]; rfl⟩

/-- Everything the operation `i` of a live block can end in (R170). A byte sequence is cut off at its byte `k` in the state `v`
that the operation had come to. -/
inductive OpOutcome (i : Instr) (s : State) : State → Prop
  | completed (r : OpResult) (u : State) (hr : Completes i r) (faulted : u.faulted = false) (refused : u.refused = s.refused)
      (results : u.resultsRev = s.resultsRev) : OpOutcome i s (answer r u)
  | checkFault (c : Cause) (hc : c ≠ .commFault) : OpOutcome i s (raise c s)
  | commFault (bs : List WireByte) (k : Nat) (b : WireByte) (v : State) (hv : s.UnderWay v)
      (hinit : i = .init → v.initState = .resetting2 ∨ v.initState = .resetting3) :
      OpOutcome i s (raise .commFault (sentFail bs k b v))
  | refusal (hi : IsPartialRefresh i) : OpOutcome i s (refuse s)

/-- INIT's loop begun in `s` is under way, or has been cut off in one of its two byte sequences (R112, R113). -/
def State.LoopOutcome (s u : State) : Prop :=
  s.UnderWay u ∨ ∃ bs k b v, s.UnderWay v ∧ (v.initState = .resetting2 ∨ v.initState = .resetting3) ∧
    u = raise .commFault (sentFail bs k b v)

theorem State.LoopOutcome.underWay {s u : State} (h : s.LoopOutcome u) (hf : u.faulted = false) : s.UnderWay u := by
  rcases h with h | ⟨bs, k, b, v, _, _, rfl⟩
  · exact h
  · cases hf

theorem State.LoopOutcome.of_underWay {s v u : State} (h : s.UnderWay v) (h' : v.LoopOutcome u) : s.LoopOutcome u := by
  rcases h' with h' | ⟨bs, k, b, w, hw, hi, rfl⟩
  · exact .inl (h.trans h')
  · exact .inr ⟨bs, k, b, w, h.trans hw, hi, rfl⟩

theorem InitTurn.loopOutcome {s : State} {stop go : Option State} (turn : InitTurn s stop go) (hf : s.faulted = false) :
    ∀ u, stop = some u ∨ go = some u → s.LoopOutcome u := by
  have halone := turn.initAlone
  cases turn <;> rintro u (hu | hu) <;> cases hu
  case ready.inl => exact .inl (.refl hf)
  case busy0.inl | busy3.inl => exact .inl (.sampleBusy hf)
  case wait1.inl | wait2.inl => exact .inl (.timerPoll hf)
  case leave0.inr =>
    exact .inl ⟨halone _ (.inr rfl), hf, rfl, [.timerStart resetLowMs, .rst 0#1, .busy s.busyLevel], rfl, rfl⟩
  case leave1.inr =>
    exact .inl ⟨halone _ (.inr rfl), hf, rfl, [.timerStart resetHighMs, .rst 1#1, .timerPoll s.timerExpired], rfl, rfl⟩
  case leave2.inr => exact .inl ((State.UnderWay.timerPoll hf).trans (.sent _ _ hf))
  case leave3.inr => exact .inl ((State.UnderWay.sampleBusy hf).trans (.sent _ _ hf))
  case fail2.inl h _ _ _ _ _ => exact .inr ⟨_, _, _, _, .timerPoll hf, .inl h, rfl⟩
  case fail3.inl h _ _ _ _ _ => exact .inr ⟨_, _, _, _, .sampleBusy hf, .inr h, rfl⟩

theorem initLoop_loopOutcome (n : Nat) (s : State) (hf : s.faulted = false) : s.LoopOutcome (initLoop n s) :=
  initLoop_induction s.LoopOutcome
    (stop := fun _ u hv h turn => .of_underWay (h.underWay hv) (turn.loopOutcome hv u (.inl rfl)))
    (go := fun _ u hv h turn => .of_underWay (h.underWay hv) (turn.loopOutcome hv u (.inr rfl))) n s hf (.inl (.refl hf))

theorem OpOutcome.init {s : State} (hf : s.faulted = false) : OpOutcome .init s (initBody s) := by
  have hloop := initLoop_loopOutcome s.config.initMaxTransitions s hf
  rcases initBody_cases s with ⟨_, he⟩ | ⟨_, ⟨hu, he⟩ | ⟨hu, _, he⟩ | ⟨hu, _, he⟩⟩ <;> rw [he]
  · exact .completed _ _ (.ready _) hf rfl rfl
  · rcases hloop with h | ⟨bs, k, b, v, hv, hi, hcut⟩
    · exact absurd hu (by simp [h.faulted])
    · rw [hcut]
      exact .commFault bs k b v hv fun _ => hi
  · have h := hloop.underWay hu
    exact .completed _ _ (.ready _) hu h.refused h.results
  · have h := hloop.underWay hu
    exact .completed _ _ .initNotReady hu h.refused h.results

theorem OpOutcome.startFrame {s : State} (hf : s.faulted = false) : OpOutcome .startFrame s (startFrameBody s) := by
  rcases startFrameBody_cases s hf with ⟨_, he⟩ | ⟨_, _, he⟩ | ⟨_, _, _, he⟩ | ⟨_, _, _, _, he⟩ | ⟨_, _, _, _, he⟩ <;> rw [he]
  iterate 2 exact .checkFault _ (by simp)
  · exact .completed _ _ .startFrameNotReady hf rfl rfl
  · exact .completed _ _ (.ready _) hf rfl rfl
  · exact .commFault _ _ _ _ (.sampleBusy hf) nofun

theorem OpOutcome.drawRow (p : List Byte) {s : State} (hf : s.faulted = false) : OpOutcome (.drawRow p) s (drawRowBody p s) := by
  rcases drawRowBody_cases p s hf with ⟨_, he⟩ | ⟨_, _, he⟩ | ⟨_, _, _, he⟩ | ⟨_, _, _, he⟩ | ⟨_, _, _, _, he⟩ |
    ⟨_, _, _, _, _, _, _, he⟩ <;> rw [he]
  iterate 4 exact .checkFault _ (by simp)
  · exact .completed _ _ (.ready _) hf rfl rfl
  · exact .commFault _ _ _ _ (.refl hf) nofun

theorem OpOutcome.endFrame {s : State} (hf : s.faulted = false) : OpOutcome .endFrame s (endFrameBody s) := by
  rcases endFrameBody_cases s hf with ⟨_, he⟩ | ⟨_, _, he⟩ | ⟨_, _, _, he⟩ | ⟨_, _, _, _, _, _, he⟩ <;> rw [he]
  iterate 2 exact .checkFault _ (by simp)
  · exact .completed _ _ (.ready _) hf rfl rfl
  · exact .commFault _ _ _ _ (.refl hf) nofun

theorem OpOutcome.fill (c : Color) (cl cr l r : Word) {s : State} (hf : s.faulted = false) :
    OpOutcome (.fill c cl cr l r) s (fillBody c ⟨cl, cr⟩ ⟨l, r⟩ s) := by
  rcases fillBody_cases c ⟨cl, cr⟩ ⟨l, r⟩ s with ⟨_, he⟩ | ⟨_, _, he⟩ | ⟨_, _, he⟩ <;> rw [he]
  · exact .completed _ _ (.ready _) hf rfl rfl
  · exact .checkFault _ (by simp)
  · exact .completed _ _ (.ready _) hf rfl rfl

theorem OpOutcome.rowLoad (p : List Byte) {s : State} (hf : s.faulted = false) : OpOutcome (.rowLoad p) s (rowLoadBody p s) := by
  rcases rowLoadBody_cases p s with ⟨_, he⟩ | ⟨_, he⟩ <;> rw [he]
  · exact .completed _ _ (.ready _) hf rfl rfl
  · exact .checkFault _ (by simp)

/-- Everything an operation's body can end in, one case per operation. -/
theorem opBody_outcome (i : Instr) {s : State} (hf : s.faulted = false) : OpOutcome i s (opBody i s) := by
  cases i with
  | init => exact .init hf
  | startFrame => exact .startFrame hf
  | drawRow p => exact .drawRow p hf
  | endFrame => exact .endFrame hf
  | startPartial l u r b => exact .refusal (.inl ⟨l, u, r, b, rfl⟩)
  | drawPartialRow p => exact .refusal (.inr (.inl ⟨p, rfl⟩))
  | endPartial => exact .refusal (.inr (.inr rfl))
  | fill c cl cr l r => exact .fill c cl cr l r hf
  | clipIntersect => exact .completed _ _ (.clip ..) hf rfl rfl
  | rowLoad p => exact .rowLoad p hf
  | rowRead => exact .completed _ _ (.row _) hf rfl rfl

theorem exec_outcome {i : Instr} {s t : State} (hl : s.Live) (h : exec i s = .next t) : OpOutcome i s t := by
  rw [exec_live i s hl] at h
  cases h
  exact opBody_outcome i hl.1

/-! ## What a refusal leaves -/

/-- Settles O11: both checks come before decode, and of the outcomes of an operation only the refusal sets refused. -/
theorem refusedBlockIsStuck : Obligations.RefusedBlockIsStuck := by
  refine ⟨fun s hf hr => ⟨fun i => ?_, fun d rest hq => ?_⟩, fun i s t h hr ht => ?_⟩
  · rw [exec_eq_guarded, guarded_refused _ hf hr]
  · simp [step, fetch, hq, deliver, hf, hr]
  · have not_refused : ∀ {u : State}, u.refused = s.refused → u.refused ≠ true := fun hu => by simp [hu, hr]
    rcases exec_next i s t h with ⟨_, rfl⟩ | ⟨hl, _⟩
    · exact absurd ht (not_refused rfl)
    · cases exec_outcome hl h with
      | completed r u _ _ hu _ => exact absurd ht (not_refused hu)
      | checkFault => exact absurd ht (not_refused rfl)
      | commFault bs k b v hv => exact absurd ht (not_refused hv.refused)
      | refusal hi => exact ⟨rfl, hi⟩

/-! ## What a result holds -/

/-- What a result tells of the block that gave it (R78, R170). -/
structure OpResult.Tells (r : OpResult) (i : Instr) (t : State) : Prop where
  reservedLow : r.word.extractLsb' 2 6 = 0#6
  reservedHigh : r.word.extractLsb' 17 15 = 0#15
  fault : r.word.extractLsb' 0 2 = 2#2 ↔ t.faulted = true
  cause : t.faulted = true → r.word.extractLsb' 8 8 = t.faultCause.code
  noCause : t.faulted = false → r.word.extractLsb' 8 8 = 0#8
  refused : t.faulted = false → (r.word.extractLsb' 0 2 = 3#2 ↔ t.refused = true)
  notReady : r.word.extractLsb' 0 2 = 1#2 → i = .init ∨ i = .startFrame
  empty : r.word.getLsbD 16 = true → ∃ a b c d, i = .clipIntersect a b c d
  words : r.words ≠ [] → ∃ a b c d, i = .clipIntersect a b c d
  bytes : r.bytes ≠ [] → i = .rowRead

theorem faultResult_tells (i : Instr) {t : State} (hf : t.faulted = true) : (faultResult t.faultCause).Tells i t := by
  constructor <;> simp [faultResult, ResultCode.code, hf]

theorem refusedResult_tells (i : Instr) {t : State} (hf : t.faulted = false) (hr : t.refused = true) :
    refusedResult.Tells i t := by
  constructor <;> simp [refusedResult, ResultCode.code, hf, hr]

theorem Completes.tells {i : Instr} {r : OpResult} (h : Completes i r) {t : State} (hl : t.Live) : r.Tells i t := by
  obtain ⟨hf, hr⟩ := hl
  cases h with
  | ready => constructor <;> simp [readyResult, ResultCode.code, hf, hr]
  | initNotReady | startFrameNotReady => constructor <;> simp [notReadyResult, ResultCode.code, hf, hr]
  | clip => constructor <;> simp [clipResult, ResultCode.code, hf, hr]
  | row => constructor <;> simp [rowResult, ResultCode.code, hf, hr]

theorem OpOutcome.result {i : Instr} {s t : State} (hl : s.Live) (h : OpOutcome i s t) :
    ∃ r : OpResult, t.resultsRev = r :: s.resultsRev ∧ r.Tells i t := by
  cases h with
  | completed r u hr hf href hres => exact ⟨r, by rw [answer_resultsRev, hres], hr.tells ⟨hf, href.trans hl.2⟩⟩
  | checkFault c => exact ⟨_, rfl, faultResult_tells i (t := raise c s) rfl⟩
  | commFault bs k b v hv =>
    exact ⟨faultResult .commFault, congrArg _ hv.results,
      faultResult_tells i (t := raise .commFault (sentFail bs k b v)) rfl⟩
  | refusal => exact ⟨_, rfl, refusedResult_tells i hl.1 rfl⟩

/-- Settles O12: a faulted block answers its fault; every outcome of an operation in a live one gives one result. -/
theorem everyOperationGivesOneResult : Obligations.EveryOperationGivesOneResult := by
  intro i s t h
  have one_result : ∃ r : OpResult, t.resultsRev = r :: s.resultsRev ∧ r.Tells i t := by
    rcases exec_next i s t h with ⟨hf, rfl⟩ | ⟨hl, _⟩
    · exact ⟨_, rfl, faultResult_tells i (t := answerFaulted s) hf⟩
    · exact (exec_outcome hl h).result hl
  obtain ⟨r, hres, reservedLow, reservedHigh, fault, cause, noCause, refused, notReady, empty, words, bytes⟩ := one_result
  exact ⟨r, hres, reservedLow, reservedHigh, fault, cause, noCause, refused, notReady, empty, words, bytes⟩

/-! ## How precise a fault is -/

/-- Settles O13: of the faults of an operation, all but the one of a cut-off byte sequence are raised in the state it began in. -/
theorem checkFaultsArePrecise : Obligations.CheckFaultsArePrecise := by
  intro i s t hl h hf hcause
  cases exec_outcome hl h with
  | completed r u _ hu => exact absurd hf (by simp [hu])
  | checkFault => rfl
  | commFault => exact absurd rfl hcause
  | refusal => exact absurd hf (by simp [hl.1])

/-- Settles O14: the fault is raised right after the failing byte's event, and the operation writes the frame's state and
init_state only after the last byte of a sequence. -/
theorem commFaultIsPreciseToTheByte : Obligations.CommFaultIsPreciseToTheByte := by
  intro i s t hl h hf hcause
  obtain ⟨moves, _⟩ := initStateOnlyMovesForward
  obtain ⟨rank_le, not_init⟩ := moves i s t h
  cases exec_outcome hl h with
  | completed r u _ hu => exact absurd hf (by simp [hu])
  | checkFault c hc => exact absurd hcause hc
  | refusal => exact absurd hf (by simp [hl.1])
  | commFault bs k b v hv hinit =>
    obtain ⟨es, htr, hes⟩ := hv.events
    refine ⟨⟨b.1, b.2, ((bs.take k).map okEvent).reverse ++ es, ?_, ?_, rfl⟩, rfl, hv.frameOpen, hv.rowsSent, hv.rowBuf,
      not_init, fun hi => ⟨rank_le, hinit hi⟩⟩
    · simp [sentFail, htr]
    · rw [List.all_append, okEvents_not_fail, hes]
      rfl

end Sys2Proof.Machine
end

section
/-!
PROOFS. Reset and the bounds of the block's work (spec 70_reset_and_hazards.md R200 to R202, R218): the values and the
invariants that a reset leaves, what RESET does, and how much one INIT draws and sends.
-/

namespace Sys2Proof.Machine

/-! ## The work of one INIT -/

/-- A block in `s` has come to `u` with at most so many samples and polls, and at most so many bytes. -/
def State.WorkWithin (s u : State) (draws bytes : Nat) : Prop :=
  ∃ es : List Event, u.traceRev = es ++ s.traceRev ∧ (es.filter Event.isDraw).length ≤ draws ∧
    (es.filterMap Event.wireByte).length ≤ bytes

/-- The samples and polls that INIT needs from an initialisation state on: one for each transition
to come (R110 to R113). -/
def InitState.drawsLeft (i : InitState) : Nat := i.samplesLeft + i.pollsLeft

theorem InitState.drawsLeft_le (i : InitState) : i.drawsLeft ≤ 4 := by
  cases i <;> decide

theorem InitState.bytesLeft_le (i : InitState) : i.bytesLeft ≤ 7 := by
  cases i <;> decide

theorem State.WorkWithin.of_traceRev_eq {s u : State} (h : u.traceRev = s.traceRev) (draws bytes : Nat) :
    s.WorkWithin u draws bytes :=
  ⟨[], h, Nat.zero_le _, Nat.zero_le _⟩

theorem State.WorkWithin.trans {s v u : State} {d b d' b' : Nat} (h : s.WorkWithin v d b) (h' : v.WorkWithin u d' b') :
    s.WorkWithin u (d + d') (b + b') := by
  obtain ⟨es, htr, hdraws, hbytes⟩ := h
  obtain ⟨es', htr', hdraws', hbytes'⟩ := h'
  refine ⟨es' ++ es, by rw [htr', htr, List.append_assoc], ?_, ?_⟩
  · rw [List.filter_append, List.length_append]
    omega
  · rw [List.filterMap_append, List.length_append]
    omega

theorem State.WorkWithin.mono {s u : State} {d b d' b' : Nat} (h : s.WorkWithin u d b) (hd : d ≤ d') (hb : b ≤ b') :
    s.WorkWithin u d' b' := by
  obtain ⟨es, htr, hdraws, hbytes⟩ := h
  exact ⟨es, htr, hdraws.trans hd, hbytes.trans hb⟩

theorem workWithin_sampleBusy (s : State) : s.WorkWithin (sampleBusy s) 1 0 :=
  ⟨[.busy s.busyLevel], rfl, le_refl _, le_refl _⟩

theorem workWithin_timerPoll (s : State) : s.WorkWithin (timerPoll s) 1 0 :=
  ⟨[.timerPoll s.timerExpired], rfl, le_refl _, le_refl _⟩

theorem workWithin_leaveUninit (s : State) : s.WorkWithin (leaveUninit s) 0 0 :=
  ⟨[.timerStart resetLowMs, .rst 0#1], rfl, le_refl _, le_refl _⟩

theorem workWithin_leaveResetting1 (s : State) : s.WorkWithin (leaveResetting1 s) 0 0 :=
  ⟨[.timerStart resetHighMs, .rst 1#1], rfl, le_refl _, le_refl _⟩

/-- A whole sequence sends its bytes and makes no draw; init_state is written after it (R112, R113). -/
theorem workWithin_sentOk (bs : List WireByte) (i : InitState) (s : State) :
    s.WorkWithin { sentOk bs s with initState := i } 0 bs.length := by
  refine ⟨(bs.map okEvent).reverse, rfl, ?_, ?_⟩
  · rw [List.filter_reverse, List.filter_map]
    simp [Function.comp_def, okEvent, Event.isDraw]
  · rw [List.filterMap_reverse, filterMap_wireByte_okEvents, List.length_reverse]

/-- A sequence cut off sends no more bytes than the whole one (R104). -/
theorem workWithin_raise_sentFail {bs : List WireByte} {k : Nat} (hk : k < bs.length) (s : State) :
    s.WorkWithin (raise .commFault (sentFail bs k bs[k] s)) 0 bs.length := by
  have taken : s.WorkWithin (sentOk (bs.take k) s) 0 (bs.take k).length := workWithin_sentOk _ s.initState s
  have failed : (sentOk (bs.take k) s).WorkWithin (raise .commFault (sentFail bs k bs[k] s)) 0 1 :=
    ⟨[.byte bs[k].1 bs[k].2 false], rfl, le_refl _, le_refl _⟩
  exact (taken.trans failed).mono (le_refl _) (by rw [List.length_take]; omega)

/-- The turn that ends INIT's loop makes at most one draw, and sends at most the sequence of its transition (R109). -/
theorem InitTurn.workWithin_stop {s u : State} (turn : InitTurn s (some u) none) :
    s.WorkWithin u s.initState.drawsLeft s.initState.bytesLeft := by
  cases turn with
  | ready => exact .of_traceRev_eq rfl _ _
  | busy0 hs _ | busy3 hs _ => rw [hs]; exact (workWithin_sampleBusy s).mono (by decide) (by decide)
  | wait1 hs _ | wait2 hs _ => rw [hs]; exact (workWithin_timerPoll s).mono (by decide) (by decide)
  | fail2 hs _ _ hk =>
    rw [hs]
    have hwork := (workWithin_timerPoll s).trans (workWithin_raise_sentFail hk _)
    exact hwork.mono (by decide) (by simp [InitState.bytesLeft])
  | fail3 hs _ _ hk =>
    rw [hs]
    have hwork := (workWithin_sampleBusy s).trans (workWithin_raise_sentFail hk _)
    exact hwork.mono (by decide) (by simp [InitState.bytesLeft])

/-- A transition makes one draw of those left, and sends bytes of those left (R110 to R113). -/
theorem InitTurn.workWithin_go {s u : State} (turn : InitTurn s none (some u)) :
    ∃ bytes, s.WorkWithin u 1 bytes ∧ 1 + u.initState.drawsLeft = s.initState.drawsLeft ∧
      bytes + u.initState.bytesLeft = s.initState.bytesLeft := by
  cases turn with
  | leave0 hs _ =>
    rw [hs]
    exact ⟨0, (workWithin_sampleBusy s).trans (workWithin_leaveUninit _), rfl, rfl⟩
  | leave1 hs _ =>
    rw [hs]
    exact ⟨0, (workWithin_timerPoll s).trans (workWithin_leaveResetting1 _), rfl, rfl⟩
  | leave2 hs _ _ =>
    rw [hs]
    exact ⟨_, (workWithin_timerPoll s).trans (workWithin_sentOk _ _ _), rfl, rfl⟩
  | leave3 hs _ _ =>
    rw [hs]
    exact ⟨_, (workWithin_sampleBusy s).trans (workWithin_sentOk _ _ _), rfl, rfl⟩

/-- INIT's loop stays within what is left, for any number of transitions: each turn takes from it what it uses. -/
theorem initLoop_workWithin (n : Nat) (s : State) (hf : s.faulted = false) :
    s.WorkWithin (initLoop n s) s.initState.drawsLeft s.initState.bytesLeft := by
  induction n generalizing s with
  | zero => exact .of_traceRev_eq rfl _ _
  | succ n ih =>
    rcases initLoop_turn n s hf with ⟨u, turn, he⟩ | ⟨u, turn, hu, he⟩ <;> rw [he]
    · exact turn.workWithin_stop
    · obtain ⟨bytes, hwork, hdraws, hbytes⟩ := turn.workWithin_go
      rw [← hdraws, ← hbytes]
      exact hwork.trans (ih u hu)

/-- INIT's answer is no event: its work is its loop's (R109). -/
theorem initBody_workWithin (s : State) (hf : s.faulted = false) :
    s.WorkWithin (initBody s) s.initState.drawsLeft s.initState.bytesLeft := by
  have hloop := initLoop_workWithin s.config.initMaxTransitions s hf
  rcases initBody_cases s with ⟨_, he⟩ | ⟨_, ⟨_, he⟩ | ⟨_, _, he⟩ | ⟨_, _, he⟩⟩ <;> rw [he]
  · exact .of_traceRev_eq rfl _ _
  all_goals exact hloop

/-- Settles O27: a faulted block does no work, and an INIT does no more than an initialisation from UNINIT has left. -/
theorem initWorkIsBounded : Obligations.InitWorkIsBounded := by
  intro s t h
  rcases exec_next .init s t h with ⟨_, rfl⟩ | ⟨hl, rfl⟩
  · exact State.WorkWithin.of_traceRev_eq rfl 4 7
  · exact (initBody_workWithin s hl.1).mono s.initState.drawsLeft_le s.initState.bytesLeft_le

/-! ## The values of a reset -/

/-- A reset leaves the row buffer its length, whatever its content (R34, R201). -/
theorem freeRow_length (fillBytes n : Nat) : (freeRow fillBytes n).length = fillBytes :=
  (Memory.wf_iff _ _).1 (freeRow_wf fillBytes n)

/-- Settles O47: each value stands in the definition of the reset state, and the row buffer's length is that of its form. -/
theorem resetValues : Obligations.ResetValues :=
  ⟨fun c n _ _ _ _ => ⟨rfl, rfl, rfl, rfl, rfl, rfl, rfl, rfl, rfl, rfl, freeRow_length c.fillBytes n, rfl⟩, rfl⟩

/-- RESET at the port is taken before any check, in a faulted and in a refused block too (R200). -/
theorem step_reset {s : State} {rest : List HostEvent} (hq : s.hostIn = .reset :: rest) :
    step s = .next (blockReset { s with hostIn := rest }) := by
  simp only [step, fetch, hq]

/-- Settles O48: the step is the block reset, which takes over nothing but the configuration and what is not block state. -/
theorem blockResetResetsEverything : Obligations.BlockResetResetsEverything := by
  intro s rest hq
  exact ⟨_, step_reset hq, rfl, rfl, rfl, rfl, rfl, rfl, rfl, rfl, rfl, rfl,
    freeRow_length s.config.fillBytes (s.resets + 1), rfl, rfl, rfl, rfl, rfl⟩

/-! ## The invariants of a reset -/

/-- The eight invariants that every step keeps. -/
structure State.Invariants (s : State) : Prop where
  rowForm : s.RowForm
  frameForm : s.FrameForm
  faultForm : s.FaultForm
  commForm : s.CommForm
  lineForm : s.LineForm
  wireForm : s.WireForm
  initForm : s.InitForm
  commandForm : s.CommandForm

/-- A reset leaves a closed frame, no fault, released lines and an empty trace, as in UNINIT each invariant asks (R201). -/
theorem resetWith_invariants (c : Config) (n : Nat) (host : List HostEvent) (busy : Tape Level) (timer : Tape Bool)
    (bus : Tape BusAnswer) : (State.resetWith c n host busy timer bus).Invariants where
  rowForm := freeRow_wf c.fillBytes n
  frameForm := ⟨Nat.zero_le _, fun _ => rfl, nofun⟩
  faultForm := ⟨nofun, fun h => absurd rfl h⟩
  commForm := ⟨rfl, nofun, nofun⟩
  lineForm := ⟨rfl, ⟨nofun, nofun⟩, nofun⟩
  wireForm := (State.wireForm_iff_of_not_faulted rfl).2 .uninit
  initForm := ⟨rfl, rfl⟩
  commandForm := (commandForm_iff _).2 nofun

/-- Settles O56: the reset state of every configuration has the eight invariants, and State.reset is one of these. -/
theorem resetMeetsTheInvariants : Obligations.ResetMeetsTheInvariants := by
  intro c n host busy timer bus s
  have hs : s.Invariants := resetWith_invariants c n host busy timer bus
  have hreset : State.reset.Invariants := resetWith_invariants Config.default 0 [] ⟨[], 0⟩ ⟨[], 0⟩ ⟨[], 0⟩
  exact ⟨hs.rowForm, hs.frameForm, hs.faultForm, hs.commForm, hs.lineForm, hs.wireForm, hs.initForm, hs.commandForm,
    hreset.rowForm, hreset.frameForm, hreset.faultForm, hreset.commForm, hreset.lineForm, hreset.wireForm, hreset.initForm,
    hreset.commandForm⟩

end Sys2Proof.Machine
end
